-- ==== Sys2Proof/Word.lean ====
section
/-! DEFINITION. The byte of the line, of the bodies and of the panel bus (R203, R211). -/

namespace Sys2Proof

/-- One character of a port: eight data bits (R4). -/
abbrev Byte := BitVec 8

end Sys2Proof
end

