-- ==== Sys2Proof/Syntax.lean ====
section
/-! DEFINITION. The commands the FH240 takes: one constructor for each row of spec/opcode_table.json. -/

namespace Sys2Proof

/-- Table 1-5: the strap inputs, as the pins stand at a cold start. -/
structure Straps where
  haltNumber : Fin 32
  endOfChain : Bool
  lineRate   : Fin 8
  preset     : Fin 8
  deriving DecidableEq, Repr

/-- The two ports of the halt line. -/
inductive Port where
  | upline | downline
  deriving DecidableEq, Repr

/-- How a consumed frame was addressed (R7, R16): to this halt's own number, or to halt 0 (all halts). -/
inductive Dest where
  | own | all
  deriving DecidableEq, Repr

/-- Table 2-1: the five table kinds. -/
inductive TableKind where
  | timetable | fares | windows | cadence | deny
  deriving DecidableEq, Repr

/-- The product of a sale (R119): SINGLE or RETURN. -/
inductive Product where
  | single | ret
  deriving DecidableEq, Repr

/-- One command. A constructor with `(to_ : Dest) (body : List Byte)` is a line frame that the address filter has handed to
its owner (R7, R15), with its body bytes as Chapter 12 lays them out. -/
inductive Instr where
  -- supply and reset
  | coldStart (straps : Straps)
  | powerFailed
  | standbySupplyFailed
  -- the halt line
  | receiverLineIdle (port : Port)
  | uplineFrame (chars : List Byte)
  | downlineFrame (chars : List Byte)
  | outboundSend
  | downlineSendDone
  | inboundMerge
  | uplineSendDone
  | linkSilenceExpiry
  | restart (to_ : Dest) (body : List Byte)
  -- loads and settings
  | loadBegin (to_ : Dest) (body : List Byte)
  | loadSegment (to_ : Dest) (body : List Byte)
  | loadEnd (to_ : Dest) (body : List Byte)
  | loadSilenceExpiry (kind : TableKind)
  | setting (to_ : Dest) (body : List Byte)
  -- clock and timetable
  | minuteTick
  | clockSet (to_ : Dest) (body : List Byte)
  | runningUpdate (to_ : Dest) (body : List Byte)
  -- board and panels
  | rowWrite (to_ : Dest) (body : List Byte)
  | composition
  | panelMode (to_ : Dest) (body : List Byte)
  | busTransaction
  | ack (chars : List Byte)
  | ackExpiry
  | pingTimerExpiry (panel : Nat)
  -- console
  | wake
  | destination (stop : Nat)
  | service (id : Nat)
  | product (p : Product)
  | party (na nc nq : Nat)
  | confirm (total : Nat)
  | cancel
  | inactivityExpiry
  | stopRequest (id : Nat)
  -- coins, cards, printer
  | offer (value : Nat)
  | token (token : Nat)
  | done
  | fault
  | printTimerExpiry
  | printerReady
  | payoutDone (c10 c20 c50 c100 : Nat)
  | payoutTimerExpiry
  | coinReady
  | coinNotReady
  | cardReady
  | cardNotReady
  | tubeSet (to_ : Dest) (body : List Byte)
  | denyAdd (to_ : Dest) (body : List Byte)
  | denyConfirm (to_ : Dest) (body : List Byte)
  -- journal
  | serialBlock (to_ : Dest) (body : List Byte)
  | journalAck (to_ : Dest) (body : List Byte)
  | journalBuild
  | ackTimerExpiry
  -- conditions
  | flags (to_ : Dest) (body : List Byte)
  | noticeClear (to_ : Dest) (body : List Byte)
  | noticeMask (to_ : Dest) (body : List Byte)
  | faultClear (to_ : Dest) (body : List Byte)
  | statusPoll (to_ : Dest) (body : List Byte)
  | reportTimerExpiry
  deriving DecidableEq, Repr

end Sys2Proof
end

