-- ==== Sys2Proof/Config.lean ====
section
/-! DEFINITION. What the FH240 fixes once (capacities and greatest values, each with its rule), and the FREE VALUES:
constants without a body, so that no proof can rest on what they are. -/

namespace Sys2Proof.Config

/-- R9: the outbound transit queue holds up to 8 frames. -/
def outboundCap : Nat := 8
/-- R10: the inbound transit queue holds up to 16 frames. -/
def inboundCap : Nat := 16
/-- R11: the own-frame queue holds up to 6 frames. -/
def ownCap : Nat := 6
/-- R20, R65: the four counters stop at 65,535. -/
def counterMax : Nat := 65535
/-- R203: a frame with a body of 200 bytes has 205 characters, and a receiver holds no more. -/
def frameMax : Nat := 205
/-- R6: the greatest length field. -/
def bodyMax : Nat := 200
/-- R26: the load-silence timer, in seconds. -/
def loadSilence : Nat := 300
/-- R111: the ping timer, in seconds. -/
def pingPeriod : Nat := 10
/-- R145: the print timer, in seconds. -/
def printPeriod : Nat := 20
/-- R147: the payout timer, in seconds. -/
def payoutPeriod : Nat := 15
/-- R173: the journal ring has 2048 places. -/
def ringPlaces : Nat := 2048
/-- R175: no record is written while the next sequence stands here. -/
def lastSequence : Nat := 4294967295
/-- R184: at most 24 records are outstanding. -/
def outstandingMax : Nat := 24
/-- R167: the deny list holds at most 2048 tokens. -/
def denyCap : Nat := 2048
/-- R170: the spend tally holds at most 64 entries. -/
def tallyCap : Nat := 64
/-- R75: the stop request list holds at most 8 entries. -/
def stopCap : Nat := 8
/-- R72: the holdover list holds at most 4 entries. -/
def holdoverCap : Nat := 4
/-- R156: the escrow holds at most 16 coins. -/
def escrowCap : Nat := 16

/-- FREE VALUE (log entry 2). The spec gives the works of different blocks on one minute tick no order (R39). The model
draws the block that goes next from this constant, applied to the counter `freeCount` of the state; so does the number of
ticks of a CLOCK SET that come before another event (R41, log entry 13). -/
opaque freeChoice : Nat → Nat

/-- FREE VALUE (log entry 10). A reference byte of an answer for which the spec states no value (Table 12-5, for a body too
short to hold the field, or a SETTING whose id names no setting), drawn with the counter `freeCount`. -/
opaque freeByte : Nat → Byte

/-- FREE VALUE (log entry 11). How the part reads a yes/no byte that is neither 0 nor 1 (R203) where no rule refuses it. -/
opaque oddYesNo : Byte → Bool

end Sys2Proof.Config
end

