-- ==== Sys2Proof/Machine/State.lean ====
section
/-! DEFINITION. The state of the FH240 as plain data: every piece of state the spec names, the queue of waiting commands, and
the state after reset. -/

namespace Sys2Proof.Machine

/-- A timer of the part's own time base: `none` stopped, `some t` running with `t` seconds measured since it restarted
(the report timer of R200 counts minutes instead). -/
abbrev Timer := Option Nat

/-! ### The halt line (chapter 1) -/

/-- A transmitter (R4, R9, R12): idle with its gap run, holding its gap, or sending a frame. -/
inductive Tx (α : Type) where
  | idle
  | gap
  | sending (frame : α)
  deriving DecidableEq, Repr

/-- The three kinds of frame the FH240 originates (chapter 1.4). -/
inductive OwnKind where
  | answer | haltReport | journal
  deriving DecidableEq, Repr

/-- An own frame: its kind, which R12 reports when it has left, and its characters. -/
structure OwnFrame where
  kind  : OwnKind
  chars : List Byte
  deriving DecidableEq, Repr

/-- What the upline transmitter sends: a forwarded frame or an own frame (R13). -/
inductive UpFrame where
  | transit (chars : List Byte)
  | own (frame : OwnFrame)
  deriving DecidableEq, Repr

/-- The line unit (chapter 1). -/
structure Line where
  straps       : Straps
  upReady      : Bool            -- R5: the upline receiver has seen its idle line since the cold start
  downReady    : Bool
  downTx       : Tx (List Byte)
  upTx         : Tx UpFrame
  outboundQ    : List (List Byte)
  inboundQ     : List (List Byte)
  ownQ         : List OwnFrame
  streak       : Nat
  linkTimer    : Timer
  linkLost     : Bool
  checkErrors  : Nat
  transitDrops : Nat
  ownDrops     : Nat
  deriving DecidableEq, Repr

/-! ### Loads and settings (chapter 2) -/

/-- R24: the target of a TIMETABLE load. -/
inductive Target where
  | today | next
  deriving DecidableEq, Repr

/-- R24: the further fields of a TIMETABLE load. -/
structure LoadRange where
  target : Target
  fromDay : Nat
  toDay : Nat
  deriving DecidableEq, Repr

/-- R22: an open staging area; `segments` has one place per segment index. -/
structure Staging where
  version  : Nat
  segments : List (Option (List Byte))
  range    : Option LoadRange
  silence  : Nat                 -- seconds since the load-silence timer restarted (R26)
  deriving DecidableEq, Repr

/-- R22: one staging area for each table kind, `none` when empty. -/
structure Loader where
  timetable : Option Staging
  fares     : Option Staging
  windows   : Option Staging
  cadence   : Option Staging
  deny      : Option Staging
  deriving DecidableEq, Repr

/-- Table 2-7: the twenty settings, in the order of their ids. -/
structure Settings where
  linkSilence   : Nat
  ackWindow     : Nat
  inactivity    : Nat
  staleWindow   : Nat
  lapseWindow   : Nat
  cancelDisplay : Nat
  wakeLead      : Nat
  reportEvery   : Nat
  denyAgeLimit  : Nat
  cardFloor     : Nat
  cardDaily     : Nat
  cardCount     : Nat
  serialsLow    : Nat
  tubeLow10     : Nat
  tubeLow20     : Nat
  tubeLow50     : Nat
  tubeLow100    : Nat
  mergeShare    : Nat
  journalL1     : Nat
  journalL2     : Nat
  deriving DecidableEq, Repr

/-! ### Clock and cadence (chapter 3) -/

/-- R107: a panel's mode. -/
inductive PanelMode where
  | off | dim | on
  deriving DecidableEq, Repr

/-- R48: the holiday rule of a cadence entry. -/
inductive HolidayRule where
  | any | notOnHoliday | onlyOnHoliday
  deriving DecidableEq, Repr

/-- Table 3-2: the action of a cadence entry; a flag set holds control flags only (R49). -/
inductive CadenceAction where
  | flagsSet (set : BitVec 13)
  | flagsClear (set : BitVec 13)
  | panelMode (panel : Nat) (mode : PanelMode)
  | windowShow (window : Nat)
  | windowHide (window : Nat)
  | sendReport
  deriving DecidableEq, Repr

/-- R48: a cadence entry. The condition is a flag number of Table 12-6 and how the flag must stand. -/
structure CadenceEntry where
  weekdays  : BitVec 7
  holiday   : HolidayRule
  value     : BitVec 11
  mask      : BitVec 11
  condition : Option (Nat × Bool)
  action    : CadenceAction
  deriving DecidableEq, Repr

/-- R41: the fields of a CLOCK SET that has passed its checks. -/
structure ClockFields where
  day     : Nat
  weekday : Nat
  minute  : Nat
  second  : Nat
  deriving DecidableEq, Repr

/-- R41, R44: a CLOCK SET whose ticks are being made: the ticks still to make, the second it then takes, and how it was
addressed, which decides whether it is answered. -/
structure ClockMove where
  left   : Nat
  second : Nat
  to_    : Dest
  deriving DecidableEq, Repr

/-- R38, R48, R50: the clock, the cadence table in force and the cadence high mark; the CLOCK SET whose ticks are being made, and
those that wait until it is completed, oldest first (R41), each with its addressing and its fields: none where its length or a field is
out of range, whose REFUSED(FIELD) waits for its turn too (R16). -/
structure Clock where
  second         : Nat
  minute         : Nat
  day            : Nat
  weekday        : Nat
  valid          : Bool
  jumped         : Bool
  highMark       : Option Nat
  cadence        : List CadenceEntry
  cadenceVersion : Nat
  move           : Option ClockMove
  waiting        : List (Dest × Option ClockFields)
  deriving DecidableEq, Repr

/-! ### Timetable and running state (chapter 4) -/

/-- R59: UP or DOWN. -/
inductive TrainDir where
  | up | down
  deriving DecidableEq, Repr

/-- Table 4-1: a service record. `days` has bit d for weekday d; a calling entry is a stop index and minutes after departure. -/
structure Service where
  id       : Nat
  dir      : TrainDir
  platform : Nat
  arrival  : Option Nat
  dep      : Nat
  days     : BitVec 7
  holiday  : Bool
  request  : Bool
  sellable : Bool
  calls    : List (Nat × Nat)
  deriving DecidableEq, Repr

/-- R58: a loaded bank. -/
structure Bank where
  version  : Nat
  fromDay  : Nat
  toDay    : Nat
  services : List Service
  deriving DecidableEq, Repr

/-- Table 4-2: the states of a running entry. -/
inductive RunState where
  | planned | running | stale | arriving | departed | cancelled | lapsed
  deriving DecidableEq, Repr

/-- R65: the six kinds of running note. -/
inductive NoteKind where
  | delay | approach | departed | cancel | reinstate | platform
  deriving DecidableEq, Repr

/-- R67: the content of a note, its delay and platform brought into range. -/
structure NoteContent where
  kind        : NoteKind
  delay       : Int
  platform    : Nat
  stopOrdered : Bool
  deriving DecidableEq, Repr

/-- R62: a running entry. It holds a copy of its service record (log entry 22). -/
structure RunEntry where
  svc         : Service
  day         : Nat
  state       : RunState
  delay       : Int
  platform    : Nat
  stopOrdered : Bool
  noteAge     : Nat
  last        : Option NoteContent
  deriving DecidableEq, Repr

/-- R75: the state of a stop request. -/
inductive ReqState where
  | lodged | ordered
  deriving DecidableEq, Repr

/-- R75: the source of a stop request. -/
inductive ReqSource where
  | sale | button
  deriving DecidableEq, Repr

/-- R75: an entry of the stop request list. -/
structure StopReq where
  id     : Nat
  day    : Nat
  state  : ReqState
  minute : Nat
  source : ReqSource
  deriving DecidableEq, Repr

/-- The timetable unit (chapter 4). -/
structure Timetable where
  running      : Option Bank
  standing     : Option Bank
  entries      : List RunEntry
  holdover     : List RunEntry
  stopReqs     : List StopReq
  expired      : Bool
  unknownNotes : Nat
  deriving DecidableEq, Repr

/-! ### Departure board (chapter 5) -/

/-- R84: how a cell is drawn. -/
inductive CellAttr where
  | normal | inverse | flash
  deriving DecidableEq, Repr

/-- R84: a character cell. -/
structure Cell where
  code : Nat
  attr : CellAttr
  deriving DecidableEq, Repr

/-- R84: the 40 cells of a row, from the left. -/
abbrev Row := List Cell

/-- R84: a space. -/
def Cell.space : Cell := ⟨32, .normal⟩

/-- Forty spaces (R84, R86, R89). -/
def spaces : Row := List.replicate 40 Cell.space

/-- R86: a panel entry of the window table. -/
structure PanelEntry where
  panel   : Nat
  present : Bool
  rows    : Nat
  deriving DecidableEq, Repr

/-- Table 5-1: the four kinds of LIVE window. -/
inductive WinKind where
  | departures | nextTrain | notices | clock
  deriving DecidableEq, Repr

/-- Table 5-1: a window descriptor, with its run-time shown state (R91), composition mark (R92) and candidate set (R94).
`live` is `none` for a FIXED window. Bit p − 1 of `platforms` is platform p; bit 0 of `dirs` is UP, bit 1 DOWN. -/
structure Window where
  number      : Nat
  panel       : Nat
  first       : Nat
  base        : Nat
  length      : Nat
  reverse     : Bool
  live        : Option WinKind
  platforms   : BitVec 4
  dirs        : BitVec 2
  inclCanc    : Bool
  callingRows : Bool
  moreLine    : Bool
  shown       : Bool
  marked      : Bool
  cands       : List (Nat × Nat)
  deriving DecidableEq, Repr

/-- The board composer (chapter 5). `store` lists the rows that are not all spaces, row numbers rising (R84). -/
structure Board where
  store   : List (Nat × Row)
  version : Nat
  panels  : List PanelEntry
  windows : List Window
  banners : List Row
  deriving DecidableEq, Repr

/-! ### Panel port (chapter 6) -/

/-- R105: a panel record. `marks` has one send mark for each panel row, so its length is the record's `rows`. -/
structure PanelRec where
  present     : Bool
  marks       : List Bool
  mode        : PanelMode
  eff         : PanelMode
  silent      : Bool
  miss        : Nat
  modePending : Bool
  pingTimer   : Timer
  pingDue     : Bool
  deriving DecidableEq, Repr

/-- R109: the kind of the message in flight; a ROW keeps its panel row. -/
inductive BusMsg where
  | row (r : Nat) | mode | ping
  deriving DecidableEq, Repr

/-- The panel port (chapter 6): the records of panels 1..6 in order, the round-robin place and the transaction in flight. -/
structure Panels where
  recs     : List PanelRec
  place    : Nat
  inFlight : Option (Nat × BusMsg)
  deriving DecidableEq, Repr

/-! ### Fares (chapter 7) -/

/-- Table 7-1: a stop entry; `group` is `none` for NONE. Characters are codes 32..126. -/
structure Stop where
  name  : List Nat
  code  : List Nat
  dist  : Nat
  group : Option Nat
  deriving DecidableEq, Repr

/-- Table 7-2: a tariff group. -/
structure Tariff where
  boarding : Nat
  rate1    : Nat
  taper    : Nat
  rate2    : Nat
  cap      : Nat
  offPeak  : Nat
  conc     : Nat
  barred   : Bool
  ret      : Nat
  deriving DecidableEq, Repr

/-- R113: the stop and fare table in force. -/
structure FareTable where
  version   : Nat
  home      : Nat
  step      : Nat
  childMin  : Nat
  groups    : List Tariff
  workBands : List (Nat × Nat)
  restBands : List (Nat × Nat)
  stops     : List Stop
  deriving DecidableEq, Repr

/-- R121: the band of a quote. -/
inductive Band where
  | offPeak | peak
  deriving DecidableEq, Repr

/-- R119: a quote. -/
structure Quote where
  adult    : Option Nat
  child    : Option Nat
  conc     : Option Nat
  total    : Nat
  band     : Band
  step     : Nat
  version  : Nat
  destName : List Nat
  destCode : List Nat
  homeName : List Nat
  homeCode : List Nat
  deriving DecidableEq, Repr

/-! ### The sale (chapter 8) -/

/-- R130: the states of the sale context. -/
inductive SaleState where
  | idle | selecting | quoted | paying | issuing | settling
  deriving DecidableEq, Repr

/-- R130: the service chosen. -/
inductive Chosen where
  | any
  | train (id day : Nat)
  deriving DecidableEq, Repr

/-- R130: how a sale is paid. -/
inductive Medium where
  | coin | card
  deriving DecidableEq, Repr

/-- R119: the party. -/
structure Party where
  na : Nat
  nc : Nat
  nq : Nat
  deriving DecidableEq, Repr

/-- Table 8-4: the sale context. `request` is request stop of the record of the train held, as the timetable last held that
record (R151, log entry 17). -/
structure Sale where
  state      : SaleState
  dest       : Option Nat
  offer      : List (Nat × Nat)
  service    : Option Chosen
  request    : Bool
  product    : Option Product
  party      : Option Party
  quote      : Option Quote
  paid       : Nat
  medium     : Option Medium
  token      : Option Nat
  reserved   : Bool
  serial     : Option Nat
  planned    : Nat
  inactivity : Timer
  print      : Timer
  payout     : Timer
  deriving DecidableEq, Repr

/-- Table 8-4: every field as it stands in IDLE. -/
def Sale.atRest : Sale :=
  { state := .idle, dest := none, offer := [], service := none, request := false, product := none, party := none
    quote := none, paid := 0, medium := none, token := none, reserved := false, serial := none, planned := 0
    inactivity := none, print := none, payout := none }

/-! ### Coins and cards (chapter 9) -/

/-- A count for each of the 10, 20, 50 and 100 cent tubes. -/
structure Tubes where
  c10  : Nat
  c20  : Nat
  c50  : Nat
  c100 : Nat
  deriving DecidableEq, Repr

/-- R170: an entry of the spend tally. -/
structure TallyEntry where
  token   : Nat
  total   : Nat
  count   : Nat
  lastUse : Nat
  deriving DecidableEq, Repr

/-- The payment unit (chapter 9), less the tube counts, which are in the retained store. -/
structure Payment where
  escrow      : List Nat
  plan        : Option Tubes
  outstanding : Option Tubes
  coinReady   : Bool
  cardReady   : Bool
  accept      : Bool
  armed       : Bool
  coinAvail   : Bool
  cardAvail   : Bool
  low10       : Bool            -- EXACT_FARE (R163)
  low20       : Bool
  low50       : Bool
  low100      : Bool
  deny        : List Nat
  denyAge     : Nat
  denyOld     : Bool
  tally       : List TallyEntry
  deriving DecidableEq, Repr

/-! ### Serials and journal (chapter 10) -/

/-- R176, R209: the kind byte of a SALE or VOID record; an open record has no kind. -/
inductive RecKind where
  | opened | sale | void
  deriving DecidableEq, Repr

/-- Table 10-2: the void reason. -/
inductive VoidReason where
  | none | printFault | printTimeout | powerLoss | restart
  deriving DecidableEq, Repr

/-- Table 10-2: a SALE or VOID record, or the open record. -/
structure SaleRec where
  seq         : Nat
  kind        : RecKind
  printed     : Bool
  recovered   : Bool
  day         : Nat
  minute      : Nat
  serial      : Nat
  dest        : Nat
  service     : Chosen
  product     : Product
  band        : Band
  party       : Party
  adult       : Nat
  child       : Nat
  conc        : Nat
  amount      : Nat
  medium      : Medium
  token       : Nat
  changeGiven : Nat
  changeOwed  : Nat             -- the planned change while the record is open (R176)
  version     : Nat
  reason      : VoidReason
  deriving DecidableEq, Repr

/-- R177: the five figures of a day. -/
structure Totals where
  sales   : Nat
  coin    : Nat
  card    : Nat
  voids   : Nat
  carried : Nat
  deriving DecidableEq, Repr

/-- R188: a day whose figures are still to be written, or the content of a DAY_CLOSE. -/
structure DayClose where
  totals : Totals
  day    : Nat
  minute : Nat
  deriving DecidableEq, Repr

/-- R176, R177: a journal record. -/
inductive JRecord where
  | ticket (r : SaleRec)
  | dayClose (seq : Nat) (d : DayClose)
  deriving DecidableEq, Repr

/-- R182: a serial block; empty when its count is 0. -/
structure SerialBlock where
  first : Nat
  count : Nat
  deriving DecidableEq, Repr

/-- Table 10-1: the retained store. `ring` lists the places that hold a record, place numbers rising. -/
structure Retained where
  marker       : Bool
  ring         : List (Nat × Option JRecord)
  nextSeq      : Nat
  ackPoint     : Nat
  current      : SerialBlock
  standby      : SerialBlock
  lastSerial   : Nat
  totals       : Totals
  pendingClose : Option DayClose
  tubes        : Tubes
  deriving DecidableEq, Repr

/-- The journal unit's volatile state (Figure 10-1) and the condition flags it derives. -/
structure Journal where
  sendPoint  : Nat
  highPoint  : Nat
  reserved   : Bool
  ackTimer   : Timer
  l1         : Bool
  l2         : Bool
  noSerials  : Bool
  serialsLow : Bool
  deriving DecidableEq, Repr

/-! ### Conditions, notices, fault capture (chapter 11) -/

/-- R201: the cause of a table fault. A fault handed over names one cause. -/
inductive FaultCause where
  | absent | beyondLength | outOfRange
  deriving DecidableEq, Repr

/-- R201: the origin of a table fault. -/
inductive FaultOrigin where
  | fare | board | offer | cadence
  deriving DecidableEq, Repr

/-- R201: a filled fault capture record; the table is CADENCE for the cadence's faults, FARES for the others. -/
structure FaultRec where
  cause  : FaultCause
  origin : FaultOrigin
  index  : Nat
  day    : Nat
  minute : Nat
  later  : Nat
  deriving DecidableEq, Repr

/-- The condition unit (chapter 11). Bit n of `ctrl` is control flag n of Table 12-6; bit i of `pending` and `masks` is the
notice at position i + 1 of Table 11-3. -/
structure Cond where
  ctrl        : BitVec 13
  salesOpen   : Bool
  pending     : BitVec 16
  masks       : BitVec 16
  faultRec    : Option FaultRec
  reportTimer : Timer           -- a count of minutes (R200)
  deriving DecidableEq, Repr

/-! ### Messages out -/

/-- R75, R151: the outcome of a lodging, or NONE for a sale that lodges nothing. -/
inductive StopOutcome where
  | none | lodged | merged | listFull | notRequestable
  deriving DecidableEq, Repr

/-- Table 8-2: one service of an OFFER, as R80 gives it. The day of the service stays in the current offer of the context. -/
structure OfferLine where
  id       : Nat
  sched    : Nat
  expected : Nat
  platform : Nat
  state    : RunState
  dest     : List Nat
  deriving DecidableEq, Repr

/-- Table 9-4, and NO_SALE (R166). -/
inductive Decline where
  | noSale | coinsIn | unavailable | denied | overFloor | overDailyLimit | overDailyCount
  deriving DecidableEq, Repr

/-- Table 7-3: a quote refusal. -/
inductive QuoteRefusal where
  | noFare | partyInvalid | fareFault | noConcession | tooDear
  deriving DecidableEq, Repr

/-- Table 8-3: a refusal at the console. -/
inductive ConsoleRefusal where
  | noService | partyInvalid | quote (r : QuoteRefusal) | notQuoted | quoteChanged | journalFull | busy
  | notRequestable | listFull | card (r : Decline)
  deriving DecidableEq, Repr

/-- Table 8-2: why a sale is closed. -/
inductive CloseReason where
  | salesClosed | timeout | cancelled | printFault | restart
  deriving DecidableEq, Repr

/-- Table 8-2: the messages to the console. An OFFER always ends with ANY. -/
inductive ConsoleMsg where
  | offer (services : List OfferLine)
  | quote (adult child conc : Option Nat) (total : Nat) (band : Band)
  | payProgress (paid remaining : Nat)
  | serviceGone (id : Nat)
  | issued (serial change : Nat) (outcome : StopOutcome) (state : Option ReqState)
  | changeShort (owed : Nat)
  | stopTaken (id : Nat) (state : ReqState)
  | refused (r : ConsoleRefusal)
  | closed (r : CloseReason)
  deriving DecidableEq, Repr

/-- Table 8-6: the ticket. Times are (hours, minutes); `train` is `none` for ANY TRAIN; a fare is given for a kind whose count is
1 or more. -/
structure Ticket where
  serial   : Nat
  day      : Nat
  time     : Nat × Nat
  fromName : List Nat
  fromCode : List Nat
  toName   : List Nat
  toCode   : List Nat
  train    : Option (Option (Nat × Nat) × Nat)
  product  : Product
  band     : Band
  party    : Party
  adult    : Option Nat
  child    : Option Nat
  conc     : Option Nat
  total    : Nat
  medium   : Medium
  version  : Nat
  deriving DecidableEq, Repr

/-- R161: where an escrowed coin is dropped. -/
inductive CoinDest where
  | tube (value : Nat)
  | cashBox
  deriving DecidableEq, Repr

/-- Table 9-1: the messages to the coin module. -/
inductive CoinMsg where
  | accept (on : Bool)
  | take
  | refuse
  | commit (dests : List CoinDest)
  | ret
  | payout (counts : Tubes)
  deriving DecidableEq, Repr

/-- R165: the messages to the card module; a RESULT is approved (`none`) or declined with a reason. -/
inductive CardMsg where
  | arm (amount : Nat)
  | disarm
  | result (declined : Option Decline)
  deriving DecidableEq, Repr

/-- What the FH240 sends outside: messages on the module ports, and a frame at the completion of its last character on a
line port. -/
inductive OutMsg where
  | console (m : ConsoleMsg)
  | print (t : Ticket)
  | coin (m : CoinMsg)
  | card (m : CardMsg)
  | bus (chars : List Byte)
  | upline (f : UpFrame)
  | downline (chars : List Byte)
  deriving DecidableEq, Repr

/-! ### The state -/

/-- The FH240: its blocks, whether it is powered, and the model's own fields: the queue of waiting commands, the record of
what was sent, and the counter that free values are drawn with. -/
structure State where
  powered      : Bool
  line         : Line
  loader       : Loader
  settings     : Settings
  clock        : Clock
  tt           : Timetable
  board        : Board
  panels       : Panels
  fares        : Option FareTable
  sale         : Sale
  printerFault : Bool
  pay          : Payment
  ret          : Retained
  jrn          : Journal
  cond         : Cond
  out          : List OutMsg
  freeCount    : Nat
  pending      : List Instr
  deriving DecidableEq, Repr

/-- The reasons the machine stops with a fault: none. No rule of the spec stops the part other than loss of its supply, which
is the state `powered = false`; safe, since nothing is left out of what the part does. -/
inductive Fault where
  deriving DecidableEq, Repr

/-- The reasons the model refuses a command. -/
inductive Refusal where
  /-- Raised by an arm of `exec` for a command that has no meaning yet; none is left. Safe: nothing is claimed of it. -/
  | notModelled (mnemonic : String)
  deriving DecidableEq, Repr

/-! ### Reset -/

/-- Log entry 5 (DESIGN CHOICE): the strap levels of State.reset: halt 1, not the end of its chain, 1200 bit/s, preset 0. -/
def Straps.atReset : Straps := { haltNumber := 1, endOfChain := false, lineRate := 0, preset := 0 }

/-- R19, Table 1-5: the line rate a strap value selects, in bit/s. -/
def strapRate (v : Fin 8) : Nat :=
  match v with
  | 0 => 1200
  | 1 => 2400
  | 2 => 4800
  | 3 => 9600
  | 4 => 19200
  | 5 => 38400
  | 6 => 9600
  | 7 => 9600

/-- R4, R19: the rate of both line ports, from the strap value held since the cold start. Its times are not modelled (log entry 9). -/
def Line.bitRate (l : Line) : Nat := strapRate l.straps.lineRate

/-- R21: the line unit after a cold start with the given straps. -/
def Line.coldStart (straps : Straps) : Line :=
  { straps := straps, upReady := false, downReady := false, downTx := .idle, upTx := .idle
    outboundQ := [], inboundQ := [], ownQ := [], streak := 0, linkTimer := none, linkLost := true
    checkErrors := 0, transitDrops := 0, ownDrops := 0 }

/-- R37: all five staging areas empty. -/
def Loader.empty : Loader := { timetable := none, fares := none, windows := none, cadence := none, deny := none }

/-- Table 2-8: the journal thresholds of a preset. -/
def presetLevels (preset : Fin 8) : Nat × Nat :=
  match preset with
  | 0 => (1024, 1536)
  | 1 => (1280, 1664)
  | 2 => (1536, 1792)
  | 3 => (1536, 1920)
  | 4 => (1792, 1920)
  | 5 => (1792, 1984)
  | 6 => (1920, 2000)
  | 7 => (512, 1024)

/-- R36: the defaults of Table 2-7, with the journal thresholds of the preset strap. -/
def Settings.default (preset : Fin 8) : Settings :=
  { linkSilence := 3, ackWindow := 20, inactivity := 60, staleWindow := 8, lapseWindow := 10, cancelDisplay := 30
    wakeLead := 20, reportEvery := 5, denyAgeLimit := 36, cardFloor := 3000, cardDaily := 6000, cardCount := 6
    serialsLow := 50, tubeLow10 := 5, tubeLow20 := 5, tubeLow50 := 5, tubeLow100 := 5, mergeShare := 4
    journalL1 := (presetLevels preset).1, journalL2 := (presetLevels preset).2 }

/-- R47, R57: the clock unit after a cold start. -/
def Clock.coldStart : Clock :=
  { second := 0, minute := 0, day := 0, weekday := 0, valid := false, jumped := false, highMark := none
    cadence := [], cadenceVersion := 0, move := none, waiting := [] }

/-- R82: the timetable unit after a cold start. -/
def Timetable.coldStart : Timetable :=
  { running := none, standing := none, entries := [], holdover := [], stopReqs := [], expired := false
    unknownNotes := 0 }

/-- R84, R86, R104: the board composer after a cold start. -/
def Board.coldStart : Board :=
  { store := [], version := 0, panels := [], windows := [], banners := List.replicate 4 spaces }

/-- R105: a panel record after a cold start. -/
def PanelRec.coldStart : PanelRec :=
  { present := false, marks := [], mode := .on, eff := .on, silent := false, miss := 0, modePending := false
    pingTimer := none, pingDue := false }

/-- R105: the panel port after a cold start. -/
def Panels.coldStart : Panels :=
  { recs := List.replicate 6 PanelRec.coldStart, place := 6, inFlight := none }

/-- R177: a day's figures at their start. -/
def Totals.zero : Totals := { sales := 0, coin := 0, card := 0, voids := 0, carried := 0 }

/-- R174: the retained store initialised afresh. -/
def Retained.fresh : Retained :=
  { marker := true, ring := [], nextSeq := 1, ackPoint := 1, current := ⟨0, 0⟩, standby := ⟨0, 0⟩, lastSerial := 0
    totals := .zero, pendingClose := none, tubes := ⟨0, 0, 0, 0⟩ }

/-- R192, Table 11-1: COIN_ENABLE (bit 2), CARD_ENABLE (bit 3) and REPORTS_ENABLE (bit 10) set, the others clear. -/
def ctrlDefault : BitVec 13 := 0b0010000001100#13

/-- R196, Table 11-3: the default masks, a set bit masked. Unmasked are JOURNAL_L2, SERIALS_OUT, PRINTER_FAULT,
STOP_UNCONFIRMED, FAULT_CAPTURED and TIMETABLE_EXPIRED (bits 3, 5, 9, 12, 14, 15). -/
def maskDefault : BitVec 16 := 0b0010110111010111#16

/-- R192, R195, R196, R200, R201: the condition unit after a cold start. -/
def Cond.coldStart : Cond :=
  { ctrl := ctrlDefault, salesOpen := false, pending := 0, masks := maskDefault, faultRec := none, reportTimer := none }

/-- R171: the payment unit after a cold start, with the low states the tube counts give. -/
def Payment.coldStart (low10 low20 low50 low100 : Bool) : Payment :=
  { escrow := [], plan := none, outstanding := none, coinReady := false, cardReady := false, accept := false
    armed := false, coinAvail := false, cardAvail := false, low10 := low10, low20 := low20, low50 := low50
    low100 := low100, deny := [], denyAge := 65535, denyOld := true, tally := [] }

/-- R154, R171: the messages a cold start sends. Their order is the model's (log entry 8). -/
def coldStartMessages : List OutMsg :=
  [.console (.closed .restart), .coin .ret, .coin (.accept false), .card .disarm]

/-- The machine right after reset: a cold start of a part whose retained store is initialised afresh, with the strap levels of
log entry 5. Every field stands at the value the spec gives it after a cold start (R21, R36, R37, R47, R57, R82, R84,
R86, R104, R105, R113, R154, R171, R174, R179, R182, R192, R194, R196, R200, R202). -/
def State.reset : State :=
  { powered := true
    line := Line.coldStart Straps.atReset
    loader := Loader.empty
    settings := Settings.default 0
    clock := Clock.coldStart
    tt := Timetable.coldStart
    board := Board.coldStart
    panels := Panels.coldStart
    fares := none
    sale := Sale.atRest
    printerFault := false
    pay := Payment.coldStart true true true true
    ret := Retained.fresh
    jrn := { sendPoint := 1, highPoint := 1, reserved := false, ackTimer := none, l1 := false, l2 := false
             noSerials := true, serialsLow := true }
    cond := Cond.coldStart
    out := coldStartMessages
    freeCount := 0
    pending := [] }

end Sys2Proof.Machine
end

