-- ==== Sys2Proof/Machine/Operands.lean ====
section
/-! DEFINITION. How bytes are read and written (R203), the coded values of Table 12-3, and the table records and the running note
of Table 12-4, cell by cell and record by record. What a record means is its owner's to judge. -/

namespace Sys2Proof.Machine

/-! ### Numbers in bytes (R203) -/

/-- R203: a multi-byte number, high byte first. -/
def beNat (bs : List Byte) : Nat := bs.foldl (fun n b => n * 256 + b.toNat) 0

/-- R203: the low `8 * k` bits of a number as `k` bytes, high byte first. -/
def beBytes : Nat → Nat → List Byte
  | 0, _ => []
  | k + 1, n => BitVec.ofNat 8 (n / 256 ^ k) :: beBytes k n

/-- A number of one byte. -/
def byte (n : Nat) : Byte := BitVec.ofNat 8 n

/-- R203: a signed 16-bit number in two's complement. -/
def signed16 (n : Nat) : Int := if n < 32768 then (n : Int) else (n : Int) - 65536

/-- R203: a yes/no byte: 0 no, 1 yes; any other byte reads as the free value of log entry 11 where no rule refuses it. -/
def readYesNo (b : Byte) : Bool :=
  if b = 0 then false else if b = 1 then true else Config.oddYesNo b

/-- R203: a yes/no field as a byte. -/
def yesNoByte (b : Bool) : Byte := if b then 1 else 0

/-- All of a list of options, or `none` when one is missing. -/
def allSome {α : Type} : List (Option α) → Option (List α)
  | [] => some []
  | o :: os =>
    match o, allSome os with
    | some a, some as => some (a :: as)
    | _, _ => none

/-! ### Coded values (Table 12-3) -/

/-- R204: the code of a table kind. -/
def kindOfByte (b : Byte) : Option TableKind :=
  match b.toNat with
  | 1 => some .timetable
  | 2 => some .fares
  | 3 => some .windows
  | 4 => some .cadence
  | 5 => some .deny
  | _ => none

/-- Table 12-3: a panel mode. -/
def modeOfByte (b : Byte) : Option PanelMode :=
  match b.toNat with
  | 0 => some .off
  | 1 => some .dim
  | 2 => some .on
  | _ => none

/-- Table 12-3: the code of a panel mode. -/
def modeCode : PanelMode → Nat
  | .off => 0
  | .dim => 1
  | .on => 2

/-- Table 12-3: a note kind. -/
def noteKindOfByte (b : Byte) : Option NoteKind :=
  match b.toNat with
  | 1 => some .delay
  | 2 => some .approach
  | 3 => some .departed
  | 4 => some .cancel
  | 5 => some .reinstate
  | 6 => some .platform
  | _ => none

/-- Table 12-3: UP 0, DOWN 1. -/
def trainDirOfByte (b : Byte) : Option TrainDir :=
  match b.toNat with
  | 0 => some .up
  | 1 => some .down
  | _ => none

/-- Table 12-3: how a cell is drawn. -/
def cellAttrOfByte (b : Byte) : Option CellAttr :=
  match b.toNat with
  | 0 => some .normal
  | 1 => some .inverse
  | 2 => some .flash
  | _ => none

/-- Table 12-3: the code of how a cell is drawn. -/
def cellAttrCode : CellAttr → Nat
  | .normal => 0
  | .inverse => 1
  | .flash => 2

/-- Table 12-3: the holiday rule of a cadence entry. -/
def holidayOfByte (b : Byte) : Option HolidayRule :=
  match b.toNat with
  | 0 => some .any
  | 1 => some .notOnHoliday
  | 2 => some .onlyOnHoliday
  | _ => none

/-- Table 12-3: the kind of a LIVE window. -/
def winKindOfByte (b : Byte) : Option WinKind :=
  match b.toNat with
  | 1 => some .departures
  | 2 => some .nextTrain
  | 3 => some .notices
  | 4 => some .clock
  | _ => none

/-- A byte that must be 0 or 1 (a direction, a key, a concession mark). -/
def bitOfByte (b : Byte) : Option Bool :=
  match b.toNat with
  | 0 => some false
  | 1 => some true
  | _ => none

/-! ### Cells (R84, R204) -/

/-- R84: the character codes a cell may hold. -/
def codeAllowed (c : Nat) : Bool := decide ((32 ≤ c ∧ c ≤ 126) ∨ (128 ≤ c ∧ c ≤ 143))

/-- R84, R204: a cell from its character code byte and the byte that follows it. -/
def cellOf (c a : Byte) : Option Cell :=
  match cellAttrOfByte a with
  | some t => if codeAllowed c.toNat then some ⟨c.toNat, t⟩ else none
  | none => none

/-- R204: a run of cells of two bytes each. -/
def cellsOf : List Byte → Option (List Cell)
  | [] => some []
  | [_] => none
  | c :: a :: rest =>
    match cellOf c a, cellsOf rest with
    | some x, some xs => some (x :: xs)
    | _, _ => none

/-- R204, R211: a row as bytes. -/
def rowBytes (r : Row) : List Byte := r.flatMap fun c => [byte c.code, byte (cellAttrCode c.attr)]

/-! ### Text -/

/-- The character codes of a text. -/
def text (s : String) : List Nat := s.toList.map Char.toNat

/-- A number below 100 in two digits. -/
def twoDigits (n : Nat) : List Nat := [48 + n / 10 % 10, 48 + n % 10]

/-- A number in decimal. -/
def decimal (n : Nat) : List Nat := (Nat.toDigits 10 n).map Char.toNat

/-- Cells of one kind showing a text. -/
def cellsFor (attr : CellAttr) (t : List Nat) : List Cell := t.map fun c => Cell.mk c attr

/-- A row: the cells given, cut or padded to 40 cells, the padding drawn in `attr`. -/
def padRow (attr : CellAttr) (cs : List Cell) : Row := (cs ++ List.replicate 40 (Cell.mk 32 attr)).take 40

/-- R1: the local time of a service minute, as hours and minutes. -/
def localTime (m : Nat) : Nat × Nat := ((m + 180) / 60 % 24, (m + 180) % 60)

/-- R97: the local time of a service minute as HH:MM. -/
def hhmm (m : Nat) : List Nat := twoDigits (localTime m).1 ++ [58] ++ twoDigits (localTime m).2

/-! ### Table records (R206, Table 12-4) -/

/-- R28: the records of one segment: read with `read` until no byte is left; `none` when a record is broken. `fuel` is at
least the number of bytes. -/
def readRecords {α : Type} (read : List Byte → Option (α × List Byte)) : Nat → List Byte → Option (List α)
  | _, [] => some []
  | 0, _ :: _ => none
  | fuel + 1, b :: bs =>
    match read (b :: bs) with
    | some (r, rest) => (readRecords read fuel rest).map (r :: ·)
    | none => none

/-- R28: assembly: the records of the segments in index order. Records never span segments. -/
def assemble {α : Type} (read : List Byte → Option (α × List Byte)) (segments : List (List Byte)) : Option (List α) :=
  (allSome (segments.map fun d => readRecords read d.length d)).map List.flatten

/-- A TIMETABLE service record as its bytes give it. -/
structure RawService where
  id       : Nat
  dir      : Byte
  platform : Nat
  arrival  : Nat
  dep      : Nat
  runsOn   : Byte
  options  : Byte
  calls    : List (Nat × Nat)
  deriving DecidableEq, Repr

/-- Table 12-4: calling entries of two bytes each. -/
def readCalls : List Byte → List (Nat × Nat)
  | s :: m :: rest => (s.toNat, m.toNat) :: readCalls rest
  | _ => []

/-- Table 12-4: TIMETABLE type 1. -/
def readService : List Byte → Option (RawService × List Byte)
  | t :: i1 :: i0 :: d :: p :: a1 :: a0 :: s1 :: s0 :: ro :: op :: n :: rest =>
    if t = 1 ∧ 2 * n.toNat ≤ rest.length then
      some (⟨beNat [i1, i0], d, p.toNat, beNat [a1, a0], beNat [s1, s0], ro, op, readCalls (rest.take (2 * n.toNat))⟩,
        rest.drop (2 * n.toNat))
    else none
  | _ => none

/-- A FARES record as its bytes give it. -/
inductive RawFare where
  | header (home step childMin : Nat)
  | group (number boarding rate1 taper rate2 cap offPeak conc : Nat) (barred : Byte) (ret : Nat)
  | band (dayType : Byte) (start stop : Nat)
  | stop (name : List Nat) (code : List Nat) (dist : Nat) (group : Byte)
  deriving DecidableEq, Repr

/-- Table 12-4: FARES types 1 to 4. -/
def readFare : List Byte → Option (RawFare × List Byte)
  | [] => none
  | t :: rest =>
    match t.toNat with
    | 1 =>
      match rest with
      | h :: s :: m1 :: m0 :: rest => some (.header h.toNat s.toNat (beNat [m1, m0]), rest)
      | _ => none
    | 2 =>
      match rest with
      | g :: b1 :: b0 :: r1 :: r0 :: t1 :: t0 :: q1 :: q0 :: c1 :: c0 :: p :: q :: x :: f :: rest =>
        some (.group g.toNat (beNat [b1, b0]) (beNat [r1, r0]) (beNat [t1, t0]) (beNat [q1, q0]) (beNat [c1, c0])
          p.toNat q.toNat x f.toNat, rest)
      | _ => none
    | 3 =>
      match rest with
      | d :: s1 :: s0 :: e1 :: e0 :: rest => some (.band d (beNat [s1, s0]) (beNat [e1, e0]), rest)
      | _ => none
    | 4 =>
      match rest with
      | n :: rest =>
        if n.toNat + 6 ≤ rest.length then
          match rest.drop n.toNat with
          | k1 :: k2 :: k3 :: d1 :: d0 :: g :: rest' =>
            some (.stop ((rest.take n.toNat).map BitVec.toNat) [k1.toNat, k2.toNat, k3.toNat] (beNat [d1, d0]) g, rest')
          | _ => none
        else none
      | _ => none
    | _ => none

/-- A WINDOWS record as its bytes give it. -/
inductive RawWindow where
  | panel (panel : Nat) (present : Byte) (rows : Nat)
  | window (number panel first base length : Nat) (dir key kind platforms dirs options : Byte)
  | banner (number : Nat) (cells : List Byte)
  deriving DecidableEq, Repr

/-- Table 12-4: WINDOWS types 1 to 3. -/
def readWindow : List Byte → Option (RawWindow × List Byte)
  | [] => none
  | t :: rest =>
    match t.toNat with
    | 1 =>
      match rest with
      | p :: y :: r :: rest => some (.panel p.toNat y r.toNat, rest)
      | _ => none
    | 2 =>
      match rest with
      | n :: p :: f :: b1 :: b0 :: l :: d :: k :: w :: ps :: ds :: o :: rest =>
        some (.window n.toNat p.toNat f.toNat (beNat [b1, b0]) l.toNat d k w ps ds o, rest)
      | _ => none
    | 3 =>
      match rest with
      | n :: rest => if 80 ≤ rest.length then some (.banner n.toNat (rest.take 80), rest.drop 80) else none
      | _ => none
    | _ => none

/-- A CADENCE entry as its bytes give it. -/
structure RawCadence where
  weekdays : Byte
  holiday  : Byte
  value    : Nat
  mask     : Nat
  flag     : Byte
  sense    : Byte
  action   : Byte
  operand  : List Byte
  deriving DecidableEq, Repr

/-- Table 12-4: CADENCE type 1. -/
def readCadence : List Byte → Option (RawCadence × List Byte)
  | t :: w :: h :: v1 :: v0 :: m1 :: m0 :: f :: s :: a :: o3 :: o2 :: o1 :: o0 :: rest =>
    if t = 1 then some (⟨w, h, beNat [v1, v0], beNat [m1, m0], f, s, a, [o3, o2, o1, o0]⟩, rest) else none
  | _ => none

/-- Table 12-4: DENY type 1, a token of 8 bytes. -/
def readToken : List Byte → Option (Nat × List Byte)
  | t :: a :: b :: c :: d :: e :: f :: g :: h :: rest =>
    if t = 1 then some (beNat [a, b, c, d, e, f, g, h], rest) else none
  | _ => none

/-- R206: a running note as its bytes give it. -/
structure RawNote where
  id          : Nat
  day         : Nat
  kind        : Byte
  delay       : Int
  platform    : Nat
  stopOrdered : Bool
  deriving DecidableEq, Repr

/-- Table 12-4: `n` running notes of 9 bytes each; `none` when the bytes are not exactly `n` notes (R205). -/
def readNotes : Nat → List Byte → Option (List RawNote)
  | 0, [] => some []
  | 0, _ :: _ => none
  | n + 1, i1 :: i0 :: d1 :: d0 :: k :: l1 :: l0 :: p :: y :: rest =>
    (readNotes n rest).map
      (⟨beNat [i1, i0], beNat [d1, d0], k, signed16 (beNat [l1, l0]), p.toNat, readYesNo y⟩ :: ·)
  | _ + 1, _ => none

/-- R204: `n` tokens of 8 bytes each; `none` when the bytes are not exactly `n` tokens (R205). -/
def readTokens : Nat → List Byte → Option (List Nat)
  | 0, [] => some []
  | 0, _ :: _ => none
  | n + 1, a :: b :: c :: d :: e :: f :: g :: h :: rest =>
    (readTokens n rest).map (beNat [a, b, c, d, e, f, g, h] :: ·)
  | _ + 1, _ => none

end Sys2Proof.Machine
end

