-- ==== Sys2Proof/Machine/Flags.lean ====
section
/-! DEFINITION. The halt flag word (Tables 11-1, 11-2, 12-6), and what each condition flag is derived from, as functions of the
state. When a flag is evaluated, and what follows, is in Ops.lean. -/

namespace Sys2Proof.Machine

/-! ### Control flags: their bits in the halt flag word (Table 12-6) -/

abbrev bitSalesEnable : Nat := 0
abbrev bitSuspend : Nat := 1
abbrev bitCoinEnable : Nat := 2
abbrev bitCardEnable : Nat := 3
abbrev bitHoliday : Nat := 4
abbrev bitQuiet : Nat := 5
abbrev bitBanner1 : Nat := 6
abbrev bitReportsEnable : Nat := 10

/-- R192: whether a control flag is set. -/
def ctrlSet (s : State) (bit : Nat) : Bool := s.cond.ctrl.getLsbD bit

/-! ### Views that are not stored twice (log entry 23) -/

/-- R131: SALE_ACTIVE. -/
def saleActive (s : State) : Bool := decide (s.sale.state ≠ .idle)

/-- R201: FAULT_FROZEN. -/
def faultFrozen (s : State) : Bool := s.cond.faultRec.isSome

/-- R163: EXACT_FARE is the low state of the 10-cent tube. -/
def exactFare (s : State) : Bool := s.pay.low10

/-- R173: the number of stored records. -/
def storedCount (s : State) : Nat := s.ret.nextSeq - s.ret.ackPoint

/-- R178: the fill of the journal. -/
def fill (s : State) : Nat := storedCount s + (if s.jrn.reserved then 1 else 0)

/-- R173: the ring place of the record of a sequence number. -/
def ringPlace (seq : Nat) : Nat := (seq - 1) % Config.ringPlaces

/-- R173: the write point, the place of the next sequence. -/
def writePoint (s : State) : Nat := ringPlace s.ret.nextSeq

/-- R182: the serials remaining. -/
def serialsRemaining (s : State) : Nat := s.ret.current.count + s.ret.standby.count

/-! ### What the condition flags are derived from -/

/-- R179: JOURNAL_L1 as the fill and the threshold give it. -/
def l1Now (s : State) : Bool := decide (s.settings.journalL1 ≤ fill s)

/-- R179: JOURNAL_L2 as the fill and the threshold give it. -/
def l2Now (s : State) : Bool := decide (s.settings.journalL2 ≤ fill s)

/-- R182: NO_SERIALS as the blocks give it. -/
def noSerialsNow (s : State) : Bool := decide (serialsRemaining s = 0)

/-- R182: the low state of the serials. -/
def serialsLowNow (s : State) : Bool := decide (serialsRemaining s ≤ s.settings.serialsLow)

/-- R169: DENY_OLD as the age and the limit give it. -/
def denyOldNow (s : State) : Bool := decide (s.settings.denyAgeLimit * 60 ≤ s.pay.denyAge)

/-- R155: coin payment is available. -/
def coinAvailNow (s : State) : Bool := ctrlSet s bitCoinEnable && s.pay.coinReady

/-- R165: card payment is available. -/
def cardAvailNow (s : State) : Bool := ctrlSet s bitCardEnable && !s.pay.denyOld && s.pay.cardReady

/-- R195: the conditions of SALES_OPEN. -/
def salesOpenNow (s : State) : Bool :=
  ctrlSet s bitSalesEnable && !ctrlSet s bitSuspend && s.clock.valid && s.fares.isSome && !s.jrn.l2
    && !s.jrn.noSerials && !s.printerFault && (s.pay.coinAvail || s.pay.cardAvail)

/-! ### The flag word (R207, Table 12-6) -/

/-- Table 12-6: the condition flags, from bit 16 up. -/
def condFlags (s : State) : List Bool :=
  [s.clock.valid, s.clock.jumped, s.line.linkLost, s.jrn.l1, s.jrn.l2, s.jrn.noSerials, exactFare s, s.printerFault,
    s.pay.denyOld, s.tt.expired, faultFrozen s, saleActive s, s.cond.salesOpen]

/-- R207: the flag at a bit of the halt flag word. A bit that Table 12-6 does not assign reads as clear, which the spec does not say
(DESIGN CHOICE, log entry 44). -/
def flagAt (s : State) (bit : Nat) : Bool :=
  if bit < 16 then ctrlSet s bit else (condFlags s).getD (bit - 16) false

/-- Whether a bit of the halt flag word is assigned to a flag (Table 12-6). -/
def flagAssigned (bit : Nat) : Bool := decide (bit ≤ 12 ∨ (16 ≤ bit ∧ bit ≤ 28))

/-- The number whose bit i is the i-th element of the list. -/
def bitsNat : List Bool → Nat
  | [] => 0
  | b :: bs => (if b then 1 else 0) + 2 * bitsNat bs

/-- R207: the halt flag word, as a halt report carries it. Bits 13 to 15 and 29 to 31, which Table 12-6 does not assign, are sent as 0,
which the spec does not say (DESIGN CHOICE, log entry 44). -/
def flagWord (s : State) : Nat := s.cond.ctrl.toNat + 65536 * bitsNat (condFlags s)

/-! ### The condition unit's notices (Table 11-3) -/

/-- Table 11-3: the sixteen notices. -/
inductive Notice where
  | linkLost | linkRestored | journalL1 | journalL2 | serialsLow | serialsOut | standbyTaken | tubeLow | changeShort
  | printerFault | panelSilent | denyOld | stopUnconfirmed | clockJumped | faultCaptured | timetableExpired
  deriving DecidableEq, Repr

/-- R204: a notice's bit in a notice set: its position in Table 11-3, less 1. -/
def noticeBit : Notice → Nat
  | .linkLost => 0
  | .linkRestored => 1
  | .journalL1 => 2
  | .journalL2 => 3
  | .serialsLow => 4
  | .serialsOut => 5
  | .standbyTaken => 6
  | .tubeLow => 7
  | .changeShort => 8
  | .printerFault => 9
  | .panelSilent => 10
  | .denyOld => 11
  | .stopUnconfirmed => 12
  | .clockJumped => 13
  | .faultCaptured => 14
  | .timetableExpired => 15

/-- The notice set that holds one notice. -/
def noticeSet (n : Notice) : BitVec 16 := BitVec.twoPow 16 (noticeBit n)

/-- R197: the alert set, the notices both pending and unmasked. -/
def alertSet (s : State) : BitVec 16 := s.cond.pending &&& ~~~s.cond.masks

end Sys2Proof.Machine
end

