-- ==== Sys2Proof/Machine/Ops.lean ====
section
/-! DEFINITION. The operations that several blocks share: the addressed buffers, the check of a frame, the own-frame queue,
answers, halt reports and notices, the marks of the board and of the panels, and the evaluation of each condition flag with
what follows from its change. -/

namespace Sys2Proof.Machine

/-! ### Addressed buffers: the row store (R84) and the journal ring (R173) -/

/-- What a buffer holds at a place; an unlisted place holds `dflt`. -/
def Memory.read {α : Type} (dflt : α) : List (Nat × α) → Nat → α
  | [], _ => dflt
  | (k, v) :: rest, a => if a = k then v else Memory.read dflt rest a

/-- A buffer with the content of one place replaced, in canonical form. -/
def Memory.write {α : Type} [DecidableEq α] (dflt : α) (a : Nat) (v : α) : List (Nat × α) → List (Nat × α)
  | [] => if v = dflt then [] else [(a, v)]
  | (k, w) :: rest =>
    if a < k then (if v = dflt then (k, w) :: rest else (a, v) :: (k, w) :: rest)
    else if a = k then (if v = dflt then rest else (a, v) :: rest)
    else (k, w) :: Memory.write dflt a v rest

/-- The canonical form: places strictly rising, and no entry equal to what an unlisted place holds. -/
def Memory.wf {α : Type} [DecidableEq α] (dflt : α) (m : List (Nat × α)) : Bool :=
  decide (m.Pairwise fun p q => p.1 < q.1) && m.all fun p => decide (p.2 ≠ dflt)

/-- R84: a row of the store. -/
def storeRow (s : State) (r : Nat) : Row := Memory.read spaces s.board.store r

/-- R173: what a ring place holds. -/
def ringAt (s : State) (place : Nat) : Option JRecord := Memory.read none s.ret.ring place

/-! ### The check (R204) -/

/-- One bit of the CRC-16 with generator 1021h, most significant bit first. -/
def crcBit (c : BitVec 16) : BitVec 16 := if c.msb then (c <<< 1) ^^^ 0x1021#16 else c <<< 1

/-- R204: one byte of the check. -/
def crcByte (c : BitVec 16) (b : Byte) : BitVec 16 :=
  crcBit (crcBit (crcBit (crcBit (crcBit (crcBit (crcBit (crcBit (c ^^^ (b.setWidth 16 <<< 8)))))))))

/-- R204: the check over a run of bytes, the register starting at FFFFh. -/
def crc16 (bs : List Byte) : BitVec 16 := bs.foldl crcByte 0xFFFF#16

/-- A run of bytes with its check behind it, high byte first (R204, R211). -/
def withCheck (bs : List Byte) : List Byte := bs ++ beBytes 2 (crc16 bs).toNat

/-- R204, R211: the last two bytes are the check of those before. -/
def checkGood (bs : List Byte) : Bool :=
  decide (2 ≤ bs.length) && decide (beNat (bs.drop (bs.length - 2)) = (crc16 (bs.take (bs.length - 2))).toNat)

/-! ### Messages out, counters, timers -/

/-- A message leaves on a module port, or a frame has left on a line port. -/
def send (m : OutMsg) (s : State) : State := { s with out := s.out ++ [m] }

/-- A message to the console. -/
def tellConsole (m : ConsoleMsg) (s : State) : State := send (.console m) s

/-- R20, R65: a counter incremented; it stays at 65,535. -/
def bump (n : Nat) : Nat := min (n + 1) Config.counterMax

/-- A draw of a free byte (log entry 10). -/
def freeByteAt (s : State) : Byte := Config.freeByte s.freeCount

/-- The counter of free values after a draw. -/
def drawn (s : State) : State := { s with freeCount := s.freeCount + 1 }

/-! ### Own frames (R11, R203) -/

/-- Table 12-2: the kind codes of own frames. -/
def ownCode : OwnKind → Byte
  | .answer => 0x80
  | .haltReport => 0x81
  | .journal => 0x82

/-- R203: an own frame, with direction IN, this halt's number and its check. -/
def ownChars (s : State) (k : OwnKind) (body : List Byte) : List Byte :=
  withCheck (byte (128 + s.line.straps.haltNumber.val) :: ownCode k :: byte body.length :: body)

/-- R11: the free places that the line unit reports to the journal unit. -/
def freePlaces (s : State) : Nat :=
  if s.line.straps.haltNumber = 0 then 0 else Config.ownCap - s.line.ownQ.length

/-- R11: an own frame handed to the line unit joins the own-frame queue, or is dropped and counted. -/
def handOwn (k : OwnKind) (body : List Byte) (s : State) : State :=
  if s.line.straps.haltNumber = 0 ∨ Config.ownCap ≤ s.line.ownQ.length then
    { s with line := { s.line with ownDrops := bump s.line.ownDrops } }
  else
    { s with line := { s.line with ownQ := s.line.ownQ ++ [⟨k, ownChars s k body⟩] } }

/-! ### Answers (R16, R207) -/

/-- Table 2-5: the refusal reasons. -/
inductive Reason where
  | field | capacity | overlap | notCurrent | order | isProtected | kind
  deriving DecidableEq, Repr

/-- Table 2-4: the answer codes; MISSING carries the number of segments missing and the indices listed. -/
inductive Answer where
  | accepted | clamped | committed
  | missing (count : Nat) (listed : List Nat)
  | noLoad | full
  | refused (r : Reason)
  deriving DecidableEq, Repr

/-- Table 12-3: the code of a refusal reason. -/
def reasonCode : Reason → Nat
  | .field => 1
  | .capacity => 2
  | .overlap => 3
  | .notCurrent => 4
  | .order => 5
  | .isProtected => 6
  | .kind => 7

/-- Table 12-3: the answer code and the refusal reason byte. -/
def answerCodes : Answer → Nat × Nat
  | .accepted => (1, 0)
  | .clamped => (2, 0)
  | .committed => (3, 0)
  | .missing _ _ => (4, 0)
  | .noLoad => (5, 0)
  | .full => (6, 0)
  | .refused r => (7, reasonCode r)

/-- Table 12-5: the body of an ANSWER, with its three reference bytes. -/
def answerBody (kind : Byte) (a : Answer) (ref : List Byte) : List Byte :=
  [kind, byte (answerCodes a).1, byte (answerCodes a).2] ++ ref ++
    (match a with
     | .missing n l => byte n :: byte l.length :: l.map byte
     | _ => [])

/-- R16: the ANSWER to a frame addressed to this halt; a frame addressed to halt 0 is not answered. Every owner gives it last in its
event: so the ALERT of a notice that another block raises, and a PERIODIC report that a SETTING asks for, join the own-frame queue before
it. R16 and R34 do not order these against the ANSWER (DESIGN CHOICE, log entry 52). -/
def answer (to_ : Dest) (kind : Byte) (a : Answer) (ref : List Byte) (s : State) : State :=
  match to_ with
  | .own => handOwn .answer (answerBody kind a ref) s
  | .all => s

/-- Table 12-5: the reference of an answer that has none. -/
def noRef : List Byte := [0, 0, 0]

/-! ### Running entries as every block reads them (R64, R74) -/

/-- R64, R74: the expected departure; a holdover entry's is counted in the new day. -/
def expectedOf (held : Bool) (e : RunEntry) : Nat :=
  ((e.svc.dep : Int) + e.delay - (if held then 1440 else 0)).toNat

/-- The holdover entries (`true`) and the running entries (`false`). -/
def allEntries (s : State) : List (Bool × RunEntry) :=
  s.tt.holdover.map (true, ·) ++ s.tt.entries.map (false, ·)

/-- The entry of a service id and day in either list. -/
def findEntry (s : State) (id day : Nat) : Option (Bool × RunEntry) :=
  (allEntries s).find? fun p => decide (p.2.svc.id = id ∧ p.2.day = day)

/-- R75, R79: PLANNED, RUNNING, STALE or ARRIVING. -/
def liveState : RunState → Bool
  | .planned | .running | .stale | .arriving => true
  | .departed | .cancelled | .lapsed => false

/-! ### Marks on windows and panel rows (R85, R93, R105) -/

/-- R92: the composition mark of every LIVE window of a kind. -/
def markWindows (which : Window → Bool) (s : State) : State :=
  { s with board := { s.board with
      windows := s.board.windows.map fun w => if w.live.isSome && which w then { w with marked := true } else w } }

/-- A window that lists trains. -/
def listsTrains (w : Window) : Bool := decide (w.live = some .departures ∨ w.live = some .nextTrain)

/-- R93: every NOTICES window. -/
def markNotices (s : State) : State := markWindows (fun w => decide (w.live = some .notices)) s

/-- R93: every DEPARTURES and NEXT_TRAIN window. -/
def markTrains (s : State) : State := markWindows listsTrains s

/-- R93: every LIVE window. -/
def markLive (s : State) : State := markWindows (fun _ => true) s

/-- R94: a window that a change to one service concerns: the service is within its filters, or is one of its candidates. -/
def concerns (s : State) (id day : Nat) (w : Window) : Bool :=
  listsTrains w &&
    (decide ((id, day) ∈ w.cands) ||
      (match findEntry s id day with
       | some (_, e) => w.platforms.getLsbD (e.platform - 1) && w.dirs.getLsbD (match e.svc.dir with | .up => 0 | .down => 1)
       | none => false))

/-- R81, R94: the composer is told of a change to one service. -/
def tellComposer (id day : Nat) (s : State) : State := markWindows (concerns s id day) s

/-- The record of panel number `p` (1..6). -/
def panelRec (s : State) (p : Nat) : Option PanelRec := if p = 0 then none else s.panels.recs[p - 1]?

/-- The record of panel number `p` changed. -/
def updPanel (p : Nat) (f : PanelRec → PanelRec) (s : State) : State :=
  if p = 0 then s else { s with panels := { s.panels with recs := s.panels.recs.modify (p - 1) f } }

/-- R85, R105: a send mark on one panel row; a row beyond the panel's rows takes none. -/
def markPanelRow (p row : Nat) (s : State) : State :=
  updPanel p (fun r => { r with marks := r.marks.set row true }) s

/-- R89, R108, R111: a send mark on every row of a record. -/
def markAllRows (r : PanelRec) : PanelRec := { r with marks := r.marks.map fun _ => true }

/-! ### Effective mode (R108) -/

/-- R108, train near: a shown DEPARTURES or NEXT_TRAIN window of the panel has a near candidate. -/
def trainNear (s : State) (p : Nat) : Bool :=
  s.clock.valid && s.board.windows.any fun w =>
    decide (w.panel = p) && w.shown && listsTrains w && w.cands.any fun c =>
      match findEntry s c.1 c.2 with
      | some (held, e) =>
        decide (e.state ≠ .departed ∧ e.state ≠ .lapsed) && decide (expectedOf held e ≤ s.clock.minute + s.settings.wakeLead)
      | none => false

/-- R108: a panel has a wake reason. -/
def wakeReason (s : State) (p : Nat) : Bool := saleActive s || trainNear s p

/-- R108: the effective mode of a present panel. -/
def effectiveMode (s : State) (p : Nat) (mode : PanelMode) : PanelMode :=
  if mode = .off then .off else if ctrlSet s bitQuiet && !wakeReason s p then .off else mode

/-- R108: the evaluation of one panel record. -/
def evalPanelRec (s : State) (p : Nat) (r : PanelRec) : PanelRec :=
  if !r.present then r
  else
    let m := effectiveMode s p r.mode
    if m = r.eff then r
    else if r.eff = .off then { markAllRows r with eff := m, modePending := true }
    else { r with eff := m, modePending := true }

/-- R108: the effective mode of one panel is evaluated: at a change of its mode, and at an event of one of its windows. -/
def evalPanel (p : Nat) (s : State) : State := updPanel p (evalPanelRec s p) s

/-- R108: the effective mode of every present panel is evaluated. -/
def evalPanels (s : State) : State :=
  { s with panels := { s.panels with recs := s.panels.recs.mapIdx fun i r => evalPanelRec s (i + 1) r } }

/-! ### Halt reports (R198, R210) -/

/-- R198: the reasons of a halt report. -/
inductive ReportReason where
  | poll | alert | stop | periodic | cadence
  deriving DecidableEq, Repr

/-- Table 12-3: the code of a report reason. -/
def reportCode : ReportReason → Nat
  | .poll => 1
  | .alert => 2
  | .stop => 3
  | .periodic => 4
  | .cadence => 5

/-- The value 1 or 0 of a yes/no bit. -/
def bit01 (b : Bool) : Nat := if b then 1 else 0

/-- Table 12-8: a panel's two bytes. The bits that the table does not number are sent as 0 (DESIGN CHOICE, log entry 44). -/
def panelBytes (r : PanelRec) : List Byte :=
  [byte (bit01 r.present + 2 * bit01 r.silent + 4 * (r.miss % 4)), byte (modeCode r.mode + 4 * modeCode r.eff)]

/-- Table 12-9: the ten bytes of the fault capture record. The bits of the cause set that Table 12-3 does not number are sent as 0
(DESIGN CHOICE, log entry 44). -/
def faultBytes : Option FaultRec → List Byte
  | none => List.replicate 10 0
  | some f =>
    [1,
      byte (match f.cause with | .absent => 1 | .beyondLength => 2 | .outOfRange => 4),
      byte (match f.origin with | .fare => 1 | .board => 2 | .offer => 3 | .cadence => 4),
      byte (match f.origin with | .cadence => 4 | _ => 2),
      byte f.index] ++ beBytes 2 f.day ++ beBytes 2 f.minute ++ [byte f.later]

/-- Table 12-9: the eight bytes of a stop request. -/
def stopReqBytes (q : StopReq) : List Byte :=
  beBytes 2 q.id ++ beBytes 2 q.day ++ [byte (match q.state with | .lodged => 0 | .ordered => 1)] ++ beBytes 2 q.minute ++
    [byte (match q.source with | .sale => 0 | .button => 1)]

/-- R58: the version a bank is reported with. -/
def bankVersion : Option Bank → Nat
  | some b => b.version
  | none => 0

/-- R113: the version of the stop and fare table, 0 while it is absent. -/
def fareVersion : Option FareTable → Nat
  | some f => f.version
  | none => 0

/-- R86: the window table is empty: no panels, no windows, and banner texts of spaces. A table that holds another banner text alone is read
as not empty (DEDUCED, log entry 43). -/
def windowTableEmpty (b : Board) : Bool :=
  b.panels.isEmpty && b.windows.isEmpty && b.banners.all fun r => decide (r = spaces)

/-- Table 11-5: the version of the window table in a halt report, 0 while the table is empty, whatever load left it so. -/
def windowVersion (b : Board) : Nat := if windowTableEmpty b then 0 else b.version

/-- Table 11-5: the version of the cadence table in a halt report, 0 while the table has no entry, whatever load left it so. -/
def cadenceVersion (c : Clock) : Nat := if c.cadence.isEmpty then 0 else c.cadenceVersion

/-- R198, R210, Tables 11-5 and 12-9: the body of a halt report, from the state as it stands. Bits 2 to 7 of the availability byte, which
the table does not number, are sent as 0 (DESIGN CHOICE, log entry 44). -/
def reportBody (why : ReportReason) (s : State) : List Byte :=
  [byte (reportCode why), byte s.line.straps.haltNumber.val]
    ++ beBytes 2 s.clock.day ++ beBytes 2 s.clock.minute
    ++ beBytes 4 (flagWord s)
    ++ [byte (bit01 s.pay.coinAvail + 2 * bit01 s.pay.cardAvail)]
    ++ beBytes 2 s.cond.pending.toNat ++ beBytes 2 s.cond.masks.toNat
    ++ beBytes 2 (bankVersion s.tt.running) ++ beBytes 2 (bankVersion s.tt.standing) ++ beBytes 2 (fareVersion s.fares)
    ++ beBytes 2 (windowVersion s.board) ++ beBytes 2 (cadenceVersion s.clock)
    ++ beBytes 2 s.pay.deny.length ++ beBytes 2 s.pay.denyAge
    ++ beBytes 4 s.ret.nextSeq ++ beBytes 4 s.ret.ackPoint ++ beBytes 2 (storedCount s) ++ [yesNoByte s.jrn.reserved]
    ++ beBytes 2 (fill s)
    ++ beBytes 4 (serialsRemaining s) ++ beBytes 4 s.ret.lastSerial
    ++ [byte s.ret.tubes.c10, byte s.ret.tubes.c20, byte s.ret.tubes.c50, byte s.ret.tubes.c100]
    ++ s.panels.recs.flatMap panelBytes
    ++ beBytes 2 s.line.checkErrors ++ beBytes 2 s.line.transitDrops ++ beBytes 2 s.line.ownDrops
    ++ beBytes 2 s.tt.unknownNotes
    ++ faultBytes s.cond.faultRec
    ++ [byte s.tt.stopReqs.length] ++ s.tt.stopReqs.flatMap stopReqBytes

/-- R198: a halt report is built and handed over; all but POLL are dropped while REPORTS_ENABLE is clear. -/
def report (why : ReportReason) (s : State) : State :=
  if why = .poll ∨ ctrlSet s bitReportsEnable = true then handOwn .haltReport (reportBody why s) s else s

/-! ### Notices (R196, R197) and fault capture (R201) -/

/-- R197: an ALERT report follows when the alert set has changed from empty to non-empty. -/
def alertAfter (before : State) (s : State) : State :=
  if alertSet before = 0 ∧ alertSet s ≠ 0 then report .alert s else s

/-- R196: a notice is raised. -/
def raiseNotice (n : Notice) (s : State) : State :=
  alertAfter s { s with cond := { s.cond with pending := s.cond.pending ||| noticeSet n } }

/-- A notice is raised when `rise` holds. -/
def raiseIf (rise : Bool) (n : Notice) (s : State) : State := if rise then raiseNotice n s else s

/-- A fault as it is handed to the condition unit (R201). -/
structure TableFault where
  cause  : FaultCause
  origin : FaultOrigin
  index  : Nat
  day    : Nat
  minute : Nat
  deriving DecidableEq, Repr

/-- R201: the condition unit takes a fault. -/
def captureFault (f : TableFault) (s : State) : State :=
  match s.cond.faultRec with
  | none =>
    raiseNotice .faultCaptured
      { s with cond := { s.cond with faultRec := some ⟨f.cause, f.origin, f.index, f.day, f.minute, 0⟩ } }
  | some r => { s with cond := { s.cond with faultRec := some { r with later := min (r.later + 1) 255 } } }

/-- R201: the faults of one event, in the order it hands them over. -/
def captureFaults (fs : List TableFault) (s : State) : State := fs.foldl (fun s f => captureFault f s) s

/-- A fault of the current day and minute. -/
def faultNow (s : State) (cause : FaultCause) (origin : FaultOrigin) (index : Nat) : TableFault :=
  ⟨cause, origin, index, s.clock.day, s.clock.minute⟩

/-! ### SALES_OPEN, the journal flags and the abandoned sale (R139, R142, R179, R195) -/

/-- R195, R93: SALES_OPEN takes the value of its inputs; a change marks every NOTICES window. -/
def setSalesOpen (s : State) : State :=
  if salesOpenNow s = s.cond.salesOpen then s
  else markNotices { s with cond := { s.cond with salesOpen := salesOpenNow s } }

/-- R179: JOURNAL_L1 and JOURNAL_L2 are evaluated; a rise raises its notice, and `onL2` follows a change of JOURNAL_L2. Where both
rise in one event, JOURNAL_L1 is raised first (DESIGN CHOICE, log entry 12). -/
def evalFillWith (onL2 : State → State) (s : State) : State :=
  let t := { s with jrn := { s.jrn with l1 := l1Now s, l2 := l2Now s } }
  let t := raiseIf (l1Now s && !s.jrn.l1) .journalL1 t
  let t := raiseIf (l2Now s && !s.jrn.l2) .journalL2 t
  if l2Now s = s.jrn.l2 then t else onL2 t

/-- R178: the reservation is released, and the fill falls by one. -/
def releaseReservation (s : State) : State :=
  evalFillWith setSalesOpen
    { s with jrn := { s.jrn with reserved := false }, sale := { s.sale with reserved := false } }

/-- R156: the acceptance state becomes off; ACCEPT(off) is sent when it was on. -/
def acceptOff (s : State) : State :=
  if s.pay.accept then send (.coin (.accept false)) { s with pay := { s.pay with accept := false } } else s

/-- R160, R165: the card module is disarmed; DISARM is sent only when it was armed. So a void, whose sale left PAYING with the module
disarmed, sends none, though the note of R160 speaks of its DISARM (DESIGN CHOICE, log entry 46). -/
def disarm (s : State) : State :=
  if s.pay.armed then send (.card .disarm) { s with pay := { s.pay with armed := false } } else s

/-- R160: RETURN is sent and the escrow emptied, when it is not empty. -/
def returnEscrow (s : State) : State :=
  if s.pay.escrow = [] then s else send (.coin .ret) { s with pay := { s.pay with escrow := [] } }

/-- R160: the payment unit is told that the sale has closed or is void. R139 leaves the messages to R160, which lists what is done
without an order: the model sends RETURN, then ACCEPT(off), then DISARM, for a CANCEL, a timeout, a fall of SALES_OPEN and a void alike
(DESIGN CHOICE, log entry 45). -/
def closePayment (s : State) : State :=
  let s := returnEscrow s
  disarm (acceptOff { s with pay := { s.pay with plan := none } })

/-- R130, R131: the context returns to IDLE. -/
def saleToRest (s : State) : State := { s with sale := Sale.atRest }

/-- R139: a sale is abandoned with a reason, in the order of its steps; `closePayment` says which order step 1 takes (log entry 45). -/
def abandon (why : CloseReason) (s : State) : State :=
  let s := if s.sale.state = .paying then closePayment s else s
  let s := if s.sale.reserved then releaseReservation s else s
  evalPanels (tellConsole (.closed why) (saleToRest s))

/-- R142: SELECTING, QUOTED or PAYING. -/
def saleOpen (s : State) : Bool :=
  decide (s.sale.state = .selecting ∨ s.sale.state = .quoted ∨ s.sale.state = .paying)

/-- R142, R195: SALES_OPEN is evaluated; its fall abandons a sale that is not yet paid. -/
def evalSalesOpen (s : State) : State :=
  let t := setSalesOpen s
  if s.cond.salesOpen && !t.cond.salesOpen && saleOpen t then abandon .salesClosed t else t

/-- R179: the journal flags at a change of the fill or of a threshold. -/
def evalFill (s : State) : State := evalFillWith evalSalesOpen s

/-- R182: NO_SERIALS and the low state, at a change of the serials remaining or of the setting. Where both rise in one event,
SERIALS_OUT is raised first (DESIGN CHOICE, log entry 12). When a serial is taken for a record, `openRecord` says at what point of the
event this comes. -/
def evalSerials (s : State) : State :=
  let t := { s with jrn := { s.jrn with noSerials := noSerialsNow s, serialsLow := serialsLowNow s } }
  let t := raiseIf (noSerialsNow s && !s.jrn.noSerials) .serialsOut t
  let t := raiseIf (serialsLowNow s && !s.jrn.serialsLow) .serialsLow t
  if noSerialsNow s = s.jrn.noSerials then t else evalSalesOpen t

/-! ### Payment: acceptance, arming, availability, tubes, deny age -/

/-- R119: the total of the quote the context holds. -/
def saleTotal (s : State) : Nat :=
  match s.sale.quote with
  | some q => q.total
  | none => 0

/-- R156: the escrow value. -/
def escrowValue (s : State) : Nat := s.pay.escrow.sum

/-- R156: the conditions of the acceptance state. -/
def acceptNow (s : State) : Bool :=
  decide (s.sale.state = .paying) && s.pay.coinAvail && decide (s.pay.escrow.length < Config.escrowCap)
    && decide (escrowValue s < saleTotal s)

/-- R156: the acceptance state is evaluated; ACCEPT is sent when it changes. -/
def evalAccept (s : State) : State :=
  if acceptNow s = s.pay.accept then s
  else send (.coin (.accept (acceptNow s))) { s with pay := { s.pay with accept := acceptNow s } }

/-- R165: the conditions under which the card module is armed; a sale of total 0 is never armed. -/
def armedNow (s : State) : Bool :=
  decide (s.sale.state = .paying) && s.pay.cardAvail && decide (saleTotal s ≠ 0)

/-- R165: the card module is armed or disarmed as its conditions begin or stop to hold. -/
def evalArm (s : State) : State :=
  if armedNow s = s.pay.armed then s
  else
    let t := { s with pay := { s.pay with armed := armedNow s } }
    if armedNow s then send (.card (.arm (saleTotal s))) t else send (.card .disarm) t

/-- R155, R165: the two availabilities take their values; a change marks every NOTICES window. -/
def setAvail (s : State) : State :=
  if coinAvailNow s = s.pay.coinAvail ∧ cardAvailNow s = s.pay.cardAvail then s
  else markNotices { s with pay := { s.pay with coinAvail := coinAvailNow s, cardAvail := cardAvailNow s } }

/-- R155, R165: a change of availability: SALES_OPEN, with the sale it abandons, then the acceptance state and the arming are evaluated.
The spec gives these no order: where a readiness message or DENY_OLD ends the last availability in PAYING, the sale is abandoned
first, so RETURN precedes ACCEPT(off) (DESIGN CHOICE, log entry 12). -/
def evalAvail (s : State) : State := evalArm (evalAccept (evalSalesOpen (setAvail s)))

/-- R169: DENY_OLD is evaluated; a rise raises its notice, and a change bears on card availability, in the order of `evalAvail` (log
entry 12). -/
def evalDenyOld (s : State) : State :=
  if denyOldNow s = s.pay.denyOld then s
  else evalAvail (raiseIf (denyOldNow s) .denyOld { s with pay := { s.pay with denyOld := denyOldNow s } })

/-- R163: the low states of the four tubes, as counts and settings give them. -/
def setLows (s : State) : State :=
  { s with pay := { s.pay with
      low10 := decide (s.ret.tubes.c10 ≤ s.settings.tubeLow10)
      low20 := decide (s.ret.tubes.c20 ≤ s.settings.tubeLow20)
      low50 := decide (s.ret.tubes.c50 ≤ s.settings.tubeLow50)
      low100 := decide (s.ret.tubes.c100 ≤ s.settings.tubeLow100) } }

/-- R163: the low states are evaluated; TUBE_LOW is raised for a tube that falls low, and a change of EXACT_FARE marks every
NOTICES window. -/
def evalTubes (s : State) : State :=
  let t := setLows s
  let t := if t.pay.low10 = s.pay.low10 then t else markNotices t
  let t := raiseIf (t.pay.low10 && !s.pay.low10) .tubeLow t
  let t := raiseIf (t.pay.low20 && !s.pay.low20) .tubeLow t
  let t := raiseIf (t.pay.low50 && !s.pay.low50) .tubeLow t
  raiseIf (t.pay.low100 && !s.pay.low100) .tubeLow t

/-! ### Control flags (R192, R193) -/

/-- R192, R193: the control flags become `new`, together; the readers evaluate what rests on them once. The spec gives the readers
no order; the model serves the availabilities, the NOTICES windows, SALES_OPEN with the sale it abandons, the acceptance state and
the arming, and last the panels (DESIGN CHOICE, log entry 12). -/
def setCtrl (new : BitVec 13) (s : State) : State :=
  if new = s.cond.ctrl then s
  else
    let diff := s.cond.ctrl ^^^ new
    let t := setAvail { s with cond := { s.cond with ctrl := new } }
    let t := if diff.extractLsb' bitBanner1 4 = 0 then t else markNotices t
    let t := evalArm (evalAccept (evalSalesOpen t))
    if diff.getLsbD bitQuiet then evalPanels t else t

/-! ### The printer flag (R149) and the link flag (R17) -/

/-- R149: PRINTER_FAULT becomes present; a rise raises its notice. -/
def setPrinterFault (s : State) : State :=
  if s.printerFault then s else raiseNotice .printerFault { s with printerFault := true }

/-- R149, R195: PRINTER_FAULT becomes present, and a rise bears on SALES_OPEN. -/
def printerFaultRises (s : State) : State := if s.printerFault then s else evalSalesOpen (setPrinterFault s)

/-- R187: the send point returns to the ack point. -/
def sendPointReturns (s : State) : State :=
  { s with jrn := { s.jrn with sendPoint := s.ret.ackPoint, ackTimer := none } }

/-- R17: the link-silence timer expires: LINK_LOST becomes present, its notice is raised, the timer stops, and the journal's
send point returns (R187). -/
def linkExpires (s : State) : State :=
  let s := markNotices { s with line := { s.line with linkLost := true, linkTimer := none } }
  raiseNotice .linkLost (sendPointReturns s)

/-- R17: a valid frame at the upline port. -/
def linkHeard (s : State) : State :=
  if s.line.linkLost then
    let s := raiseNotice .linkRestored (markNotices { s with line := { s.line with linkLost := false } })
    { s with line := { s.line with linkTimer := some 0 } }
  else { s with line := { s.line with linkTimer := some 0 } }

/-! ### Free interleaving (log entry 2) -/

/-- Works that fall inside one event, each owner's in its own order, the next owner drawn from the free value
`Config.freeChoice`. `fuel` is at least the number of works. -/
def interleave {ω : Type} (run : ω → State → State) : Nat → List (List ω) → State → State
  | 0, _, s => s
  | fuel + 1, owners, s =>
    let owners := owners.filter fun l => !l.isEmpty
    match owners[Config.freeChoice s.freeCount % owners.length]? with
    | none => s
    | some l =>
      match l with
      | [] => s
      | w :: rest =>
        interleave run fuel (owners.set (Config.freeChoice s.freeCount % owners.length) rest) (run w (drawn s))

/-! ### Power -/

/-- What every command but those of the supply does: nothing while the part is without power (log entry 6). -/
def whenPowered (f : State → State) (s : State) : Host.Outcome State Fault Refusal :=
  .next (if s.powered then f s else s)

end Sys2Proof.Machine
end

