-- ==== Sys2Proof/Machine/Fares.lean ====
section
/-! DEFINITION. The fare calculator (chapter 7): the validation of a FARES load and the quote. Every stage is exact in whole
numbers (R2). -/

namespace Sys2Proof.Machine

/-! ### The stages of the arithmetic (R122 to R126) -/

/-- R2: the quotient rounded up. -/
def ceilDiv (a b : Nat) : Nat := (a + b - 1) / b

/-- R122, stage 1: the distance charge in milli-cents. -/
def distanceCharge (g : Tariff) (d : Nat) : Nat := g.rate1 * min d g.taper + g.rate2 * (d - g.taper)

/-- R122, stage 2: the raw adult single. -/
def rawAdult (g : Tariff) (d : Nat) : Nat := g.boarding + ceilDiv (distanceCharge g d) 1000

/-- R123, stage 3: the banded adult single. -/
def bandedAdult (g : Tariff) (step : Nat) (band : Band) (a : Nat) : Nat :=
  match band with
  | .peak => ceilDiv a step * step
  | .offPeak => ceilDiv (a * g.offPeak) (100 * step) * step

/-- R124, stage 4: the cap. -/
def cappedAdult (g : Tariff) (a : Nat) : Nat := if g.cap = 0 then a else min a g.cap

/-- R125, stage 5: the child single. -/
def childSingle (step childMin a : Nat) : Nat := min (max (a / (2 * step) * step) childMin) a

/-- R125, stage 6: the concession single, which does not exist where the group is peak-barred in the PEAK band. -/
def concSingle (g : Tariff) (step : Nat) (band : Band) (a : Nat) : Option Nat :=
  if band = .peak ∧ g.barred = true then none else some (ceilDiv (a * g.conc) (100 * step) * step)

/-- R126, stage 7: the fare of the product. -/
def productFare (g : Tariff) (step : Nat) (p : Product) (x : Nat) : Nat :=
  match p with
  | .single => x
  | .ret => ceilDiv (x * g.ret) (100 * step) * step

/-- The three fares of stage 7. -/
structure Fares where
  adult : Nat
  child : Nat
  conc  : Option Nat
  deriving DecidableEq, Repr

/-- R122 to R126: the per-passenger fares to a stop of tariff group `g` at distance `d`. -/
def faresFor (f : FareTable) (g : Tariff) (d : Nat) (band : Band) (p : Product) : Fares :=
  let a := cappedAdult g (bandedAdult g f.step band (rawAdult g d))
  { adult := productFare g f.step p a
    child := productFare g f.step p (childSingle f.step f.childMin a)
    conc := (concSingle g f.step band a).map (productFare g f.step p) }

/-- R127: the greatest fare that can be quoted. -/
def fareMax : Nat := 65535

/-- R127: a kind in the party has a fare out of range. -/
def outOfRange (p : Party) (x : Fares) : Bool :=
  (decide (1 ≤ p.na) && decide (fareMax < x.adult)) || (decide (1 ≤ p.nc) && decide (fareMax < x.child))
    || (decide (1 ≤ p.nq) && (match x.conc with | some c => decide (fareMax < c) | none => false))

/-- R127: a fare as the quote carries it: absent when it is out of range for a kind that does not travel. -/
def carried (x : Nat) : Option Nat := if fareMax < x then none else some x

/-- R126, stage 8: the total; a kind with a count of 0 contributes nothing. -/
def totalFare (p : Party) (x : Fares) : Nat := p.na * x.adult + p.nc * x.child + p.nq * x.conc.getD 0

/-! ### Band (R116, R121) -/

/-- R116: the peak bands of the day type, REST_DAY on Saturday, Sunday and a holiday. -/
def dayBands (s : State) (f : FareTable) : List (Nat × Nat) :=
  if 5 ≤ s.clock.weekday ∨ ctrlSet s bitHoliday = true then f.restBands else f.workBands

/-- R121: the reference minute of a quote. -/
def referenceMinute (s : State) (c : Chosen) : Nat :=
  match c with
  | .any => s.clock.minute
  | .train id day =>
    if day = s.clock.day then
      match s.tt.entries.find? fun e => decide (e.svc.id = id) with
      | some e => e.svc.dep
      | none => s.clock.minute
    else s.clock.minute

/-- R121: the band of a quote. -/
def bandOf (s : State) (f : FareTable) (c : Chosen) : Band :=
  if (dayBands s f).any fun b => decide (b.1 ≤ referenceMinute s c ∧ referenceMinute s c < b.2) then .peak else .offPeak

/-! ### The quote (R119, R120) -/

/-- R119: a quote request. -/
structure QuoteReq where
  dest    : Nat
  service : Chosen
  product : Product
  party   : Party
  deriving DecidableEq, Repr

/-- R119: its answer: a quote, or a refusal with the fault it hands over. -/
inductive QuoteAnswer where
  | quote (q : Quote)
  | refused (r : QuoteRefusal) (fault : Option TableFault)
  deriving DecidableEq, Repr

/-- R120: the party limits. -/
def partyAllowed (p : Party) : Bool :=
  decide (p.na ≤ 9 ∧ p.nc ≤ 9 ∧ p.nq ≤ 9) && decide (1 ≤ p.na + p.nc + p.nq ∧ p.na + p.nc + p.nq ≤ 9)

/-- The name and code of a stop index, empty beyond the table. -/
def stopNames (f : FareTable) (i : Nat) : List Nat × List Nat :=
  match f.stops[i]? with
  | some x => (x.name, x.code)
  | none => ([], [])

/-- R120: checks 4 to 8, for a priced destination. -/
def priceTo (s : State) (f : FareTable) (st : Stop) (g : Tariff) (r : QuoteReq) : QuoteAnswer :=
  let band := bandOf s f r.service
  let x := faresFor f g st.dist band r.product
  if outOfRange r.party x then .refused .fareFault (some (faultNow s .outOfRange .fare r.dest))
  else if 1 ≤ r.party.nq ∧ x.conc = none then .refused .noConcession none
  else if 99999 < totalFare r.party x then .refused .tooDear none
  else
    .quote
      { adult := carried x.adult, child := carried x.child, conc := x.conc.bind carried, total := totalFare r.party x
        band := band, step := f.step, version := f.version, destName := st.name, destCode := st.code
        homeName := (stopNames f f.home).1, homeCode := (stopNames f f.home).2 }

/-- R120: a quote request is taken through its checks in order. -/
def quoteFor (s : State) (r : QuoteReq) : QuoteAnswer :=
  match s.fares with
  | none => .refused .noFare none
  | some f =>
    if s.clock.valid = false then .refused .noFare none
    else if partyAllowed r.party = false then .refused .partyInvalid none
    else
      match f.stops[r.dest]? with
      | none => .refused .fareFault (some (faultNow s .beyondLength .fare r.dest))
      | some st =>
        match st.group.bind (f.groups[·]?) with
        | none => .refused .fareFault (some (faultNow s .absent .fare r.dest))
        | some g =>
          if r.dest = f.home then .refused .fareFault (some (faultNow s .absent .fare r.dest))
          else priceTo s f st g r

/-! ### Stop names for the board and for offers (R80, R100) -/

/-- R100: the name of a stop index, and whether it was found. -/
def stopName (s : State) (i : Nat) : List Nat × Bool :=
  match s.fares.bind (·.stops[i]?) with
  | some x => (x.name, true)
  | none => (text "Stop " ++ twoDigits i, false)

/-! ### Validation of a FARES load (R117) -/

/-- R114: the fare steps. -/
def stepAllowed (n : Nat) : Bool := decide (n ∈ [1, 2, 5, 10, 20, 50, 100])

/-- R114: a printable code. -/
def printable (c : Nat) : Bool := decide (32 ≤ c ∧ c ≤ 126)

/-- The stop records of a load, in their order. -/
def loadStops (rs : List RawFare) : List (List Nat × List Nat × Nat × Byte) :=
  rs.filterMap fun | .stop n c d g => some (n, c, d, g) | _ => none

/-- The band records of a load, in their order. -/
def loadBands (rs : List RawFare) : List (Byte × Nat × Nat) :=
  rs.filterMap fun | .band t a b => some (t, a, b) | _ => none

/-- The bands of one day type. -/
def bandsOf (rs : List RawFare) (t : Byte) : List (Nat × Nat) :=
  ((loadBands rs).filter fun b => decide (b.1 = t)).map (·.2)

/-- The header records of a load. -/
def loadHeaders (rs : List RawFare) : List (Nat × Nat × Nat) :=
  rs.filterMap fun | .header h s m => some (h, s, m) | _ => none

/-- R117 check 4: the tariff group of a number, every field in its range (Table 7-2). -/
def tariffOf (step : Nat) : RawFare → Option Tariff
  | .group _ b r1 t r2 c p q x f =>
    match bitOfByte x with
    | some barred =>
      if b ≤ 9999 ∧ t ≤ 2000 ∧ c % step = 0 ∧ 1 ≤ p ∧ p ≤ 100 ∧ 1 ≤ q ∧ q ≤ 100 ∧ 100 ≤ f ∧ f ≤ 200 then
        some ⟨b, r1, t, r2, c, p, q, barred, f⟩
      else none
    | none => none
  | _ => none

/-- The records of one tariff group number. -/
def groupsNumbered (rs : List RawFare) (n : Nat) : List RawFare :=
  rs.filter fun | .group k _ _ _ _ _ _ _ _ _ => decide (k = n) | _ => false

/-- The number of tariff group records. -/
def groupCount (rs : List RawFare) : Nat :=
  (rs.filter fun | .group _ _ _ _ _ _ _ _ _ _ => true | _ => false).length

/-- R117 check 5: a band within R116. -/
def bandAllowed (b : Byte × Nat × Nat) : Bool :=
  decide (b.1 = 0 ∨ b.1 = 1) && decide (b.2.1 ≤ 1439 ∧ b.2.1 < b.2.2 ∧ b.2.2 ≤ 1440)

/-- R117 check 6: a stop record. -/
def stopOf (r : List Nat × List Nat × Nat × Byte) : Option Stop :=
  let (n, c, d, g) := r
  let group : Option Nat := if g = 0xFF then none else some g.toNat
  if 1 ≤ n.length ∧ n.length ≤ 20 ∧ c.length = 3 ∧ n.all printable = true ∧ c.all printable = true ∧ d ≤ 2000
      ∧ (g = 0xFF ∨ g.toNat ≤ 3) ∧ (group = none ∨ d ≠ 0) then
    some ⟨n, c, d, group⟩
  else none

/-- R117 checks 3 to 7, for a load of the right shape. -/
def buildFares (version : Nat) (rs : List RawFare) (hdr : Nat × Nat × Nat) : Option FareTable :=
  let (home, step, childMin) := hdr
  if stepAllowed step = true ∧ childMin ≤ 9999 ∧ childMin % step = 0 ∧ home < (loadStops rs).length then
    match allSome ((groupsNumbered rs 0 ++ groupsNumbered rs 1 ++ groupsNumbered rs 2 ++ groupsNumbered rs 3).map (tariffOf step)),
        allSome ((loadStops rs).map stopOf) with
    | some groups, some stops =>
      if (loadBands rs).all bandAllowed = true
          ∧ (bandsOf rs 0).Pairwise (fun a b => a.2 ≤ b.1 ∨ b.2 ≤ a.1)
          ∧ (bandsOf rs 1).Pairwise (fun a b => a.2 ≤ b.1 ∨ b.2 ≤ a.1)
          ∧ (stops[home]?.bind Stop.group) = none then
        some ⟨version, home, step, childMin, groups, bandsOf rs 0, bandsOf rs 1, stops⟩
      else none
    | _, _ => none
  else none

/-- R117: the validation of a FARES load. DEDUCED, log entry 47: check 1 counts the band records of the day types WORKDAY and
REST_DAY only, so that records naming another day type byte, however many, fail check 5 and not check 1. -/
def validateFares (version : Nat) (rs : List RawFare) : Except Reason FareTable :=
  if 64 < (loadStops rs).length ∨ 4 < (bandsOf rs 0).length ∨ 4 < (bandsOf rs 1).length then .error .capacity
  else
    match loadHeaders rs with
    | [hdr] =>
      if groupCount rs = 4 ∧ (groupsNumbered rs 0).length = 1 ∧ (groupsNumbered rs 1).length = 1
          ∧ (groupsNumbered rs 2).length = 1 ∧ (groupsNumbered rs 3).length = 1 ∧ 1 ≤ (loadStops rs).length then
        match buildFares version rs hdr with
        | some f => .ok f
        | none => .error .field
      else .error .field
    | _ => .error .field

end Sys2Proof.Machine
end

