-- ==== Sys2Proof/Machine/Running.lean ====
section
/-! DEFINITION. What other blocks ask of the timetable unit (chapter 4.6, 4.7): display order, the sellability and offer queries, and
the stop request list. -/

namespace Sys2Proof.Machine

/-! ### Display order (R64) -/

/-- R64: the first entry comes before the second: expected departure, then holdover before running, then scheduled departure,
then service id. -/
def comesBefore (a b : Bool × RunEntry) : Bool :=
  let x := expectedOf a.1 a.2
  let y := expectedOf b.1 b.2
  if x ≠ y then decide (x < y)
  else if a.1 ≠ b.1 then a.1
  else if a.2.svc.dep ≠ b.2.svc.dep then decide (a.2.svc.dep < b.2.svc.dep)
  else decide (a.2.svc.id < b.2.svc.id)

/-- An entry at its place in display order. -/
def insertEntry (a : Bool × RunEntry) : List (Bool × RunEntry) → List (Bool × RunEntry)
  | [] => [a]
  | b :: bs => if comesBefore b a then b :: insertEntry a bs else a :: b :: bs

/-- R64: a list of entries in display order. -/
def displayOrder (l : List (Bool × RunEntry)) : List (Bool × RunEntry) := l.foldr insertEntry []

/-! ### Queries (R79, R80) -/

/-- R79: an entry that can be sold. -/
def entrySellable (e : RunEntry) : Bool := e.svc.sellable && liveState e.state

/-- R79: the sellability query. -/
def isSellable (s : State) (id day : Nat) : Bool :=
  match findEntry s id day with
  | some (_, e) => entrySellable e
  | none => false

/-- R59: the stop index of the shown destination. -/
def shownDest (e : RunEntry) : Option Nat := e.svc.calls.getLast?.map (·.1)

/-- R80: the entries the offer query keeps, in display order, at most 4. -/
def offered (s : State) (dest : Nat) : List (Bool × RunEntry) :=
  if s.clock.valid = false then []
  else
    (displayOrder ((allEntries s).filter fun p =>
      entrySellable p.2 && (p.2.svc.calls.any fun c => decide (c.1 = dest))
        && decide (s.clock.minute ≤ expectedOf p.1 p.2))).take 4

/-- R80: one line of an offer. -/
def offerLine (s : State) (p : Bool × RunEntry) : OfferLine :=
  { id := p.2.svc.id, sched := p.2.svc.dep, expected := expectedOf p.1 p.2, platform := p.2.platform
    state := p.2.state
    dest := (match shownDest p.2 with | some i => (stopName s i).1 | none => []) }

/-- R80: the faults of the names an offer does not find. -/
def offerFaults (s : State) (l : List (Bool × RunEntry)) : List TableFault :=
  l.filterMap fun p =>
    match shownDest p.2 with
    | some i => if (stopName s i).2 then none else some (faultNow s .beyondLength .offer i)
    | none => none

/-! ### The stop request list (R75 to R78) -/

/-- R75: an entry whose train can be asked to stop. -/
def requestable (e : RunEntry) : Bool := e.svc.request && liveState e.state

/-- A stop request for a service id and day. -/
def reqFor (id day : Nat) (q : StopReq) : Bool := decide (q.id = id ∧ q.day = day)

/-- R200: the list holds a LODGED entry. -/
def hasLodged (s : State) : Bool := s.tt.stopReqs.any fun q => decide (q.state = .lodged)

/-- R200: the report timer starts when the list comes to hold a LODGED entry, and stops when it holds none. -/
def syncReportTimer (s : State) : State :=
  { s with cond := { s.cond with
      reportTimer := if hasLodged s then (match s.cond.reportTimer with | some n => some n | none => some 0) else none } }

/-- R199, R200: a STOP report request, which sets the report timer's count to 0. -/
def stopReport (s : State) : State :=
  report .stop { s with cond := { s.cond with reportTimer := s.cond.reportTimer.map fun _ => 0 } }

/-- R75: a request is lodged for a service and day. -/
def lodge (id day : Nat) (src : ReqSource) (s : State) : State × StopOutcome :=
  match findEntry s id day with
  | none => (s, .notRequestable)
  | some (_, e) =>
    if requestable e = false then (s, .notRequestable)
    else if s.tt.stopReqs.any (reqFor id day) then (s, .merged)
    else if Config.stopCap ≤ s.tt.stopReqs.length then (s, .listFull)
    else
      let q : StopReq := ⟨id, day, if e.stopOrdered then .ordered else .lodged, s.clock.minute, src⟩
      let s := syncReportTimer { s with tt := { s.tt with stopReqs := s.tt.stopReqs ++ [q] } }
      (tellComposer id day (stopReport s), .lodged)

/-- R77: an applied note with stop ordered yes makes a LODGED entry ORDERED. -/
def confirmStop (id day : Nat) (s : State) : State :=
  if s.tt.stopReqs.any fun q => reqFor id day q && decide (q.state = .lodged) then
    tellComposer id day (syncReportTimer
      { s with tt := { s.tt with
          stopReqs := s.tt.stopReqs.map fun q => if reqFor id day q then { q with state := .ordered } else q } })
  else s

/-- R78: the entry of a service and day is removed; STOP_UNCONFIRMED is raised when it was LODGED. -/
def removeReq (id day : Nat) (s : State) : State :=
  match s.tt.stopReqs.find? (reqFor id day) with
  | none => s
  | some q =>
    let t := syncReportTimer { s with tt := { s.tt with stopReqs := s.tt.stopReqs.filter fun q => !reqFor id day q } }
    raiseIf (decide (q.state = .lodged)) .stopUnconfirmed (tellComposer id day t)

/-- R78: the entries of several services are removed, in the order given. -/
def removeReqs (keys : List (Nat × Nat)) (s : State) : State := keys.foldl (fun s k => removeReq k.1 k.2 s) s

/-- The request state of a service and day, as the console is told it (R151, R152). -/
def reqState (s : State) (id day : Nat) : Option ReqState := (s.tt.stopReqs.find? (reqFor id day)).map (·.state)

end Sys2Proof.Machine
end

