-- ==== Sys2Proof/Machine/Board.lean ====
section
/-! DEFINITION. The board composer (chapter 5): the row store, ROW WRITE, the composition of each kind of LIVE window, the window table. -/

namespace Sys2Proof.Machine

/-! ### The row store (R85, R89, R90) -/

/-- R87: a window covers a store row. -/
def coversStore (w : Window) (r : Nat) : Bool := decide (w.base ≤ r ∧ r < w.base + w.length)

/-- R85: a send mark on every panel row that shows a store row through a shown window. -/
def markShowing (r : Nat) (s : State) : State :=
  s.board.windows.foldl
    (fun t w => if w.shown && coversStore w r then markPanelRow w.panel (w.first + (r - w.base)) t else t) s

/-- R85: a row of the store is written. -/
def writeRow (r : Nat) (row : Row) (s : State) : State :=
  if storeRow s r = row then s
  else markShowing r { s with board := { s.board with store := Memory.write spaces r row s.board.store } }

/-- R89: the content of a panel row, as the panel port sends it. -/
def panelContent (s : State) (p row : Nat) : Row :=
  match s.board.windows.find? fun w => decide (w.panel = p ∧ w.first ≤ row ∧ row < w.first + w.length) with
  | some w => if w.shown then storeRow s (w.base + (row - w.first)) else spaces
  | none => spaces

/-- R90: a ROW WRITE of a store row and its cells. -/
def officeRow (r : Nat) (cells : List Byte) (s : State) : State × Answer :=
  match cellsOf cells with
  | none => (s, .refused .field)
  | some row =>
    if 511 < r then (s, .refused .field)
    else if s.board.windows.any fun w => w.live.isSome && coversStore w r then (s, .refused .isProtected)
    else (writeRow r row s, .accepted)

/-- R90, R32: a consumed ROW WRITE. -/
def takeRowWrite (to_ : Dest) (body : List Byte) (s : State) : State :=
  match body with
  | r1 :: r0 :: cells =>
    if cells.length = 80 then
      let r := officeRow (beNat [r1, r0]) cells s
      answer to_ 0x07 r.2 noRef r.1
    else answer to_ 0x07 (.refused .field) noRef s
  | _ => answer to_ 0x07 (.refused .field) noRef s

/-! ### Window SHOW and HIDE (R91) -/

/-- A send mark on every panel row of a window. -/
def markWindowRows (w : Window) (s : State) : State :=
  (List.range w.length).foldl (fun t i => markPanelRow w.panel (w.first + i) t) s

/-- The window of a number (R86). -/
def windowNumbered (s : State) (n : Nat) : Option Window := s.board.windows.find? fun w => decide (w.number = n)

/-- The window of a number changed. -/
def updWindow (n : Nat) (f : Window → Window) (s : State) : State :=
  { s with board := { s.board with windows := s.board.windows.map fun w => if w.number = n then f w else w } }

/-- R108: an event of one window: its panel is evaluated when it is a DEPARTURES or NEXT_TRAIN window. -/
def evalWindowPanel (w : Window) (s : State) : State := if listsTrains w then evalPanel w.panel s else s

/-- R91: WINDOW SHOW of a window that is present. -/
def showWindow (w : Window) (s : State) : State :=
  evalWindowPanel w (markWindowRows w
    (updWindow w.number (fun x => { x with shown := true, marked := x.marked || x.live.isSome }) s))

/-- R91: WINDOW HIDE of a window that is present. -/
def hideWindow (w : Window) (s : State) : State :=
  if w.shown then evalWindowPanel w (markWindowRows w (updWindow w.number (fun x => { x with shown := false }) s)) else s

/-! ### Departure rows (R97 to R100) -/

/-- A row of a window as composed, with the faults of the names it failed to find. -/
abbrev BuiltRow := Row × List TableFault

/-- R100: the fault of a stop index whose name is not found. -/
def nameFault (s : State) (i : Nat) : List TableFault :=
  if (stopName s i).2 then [] else [faultNow s .beyondLength .board i]

/-- Text padded with spaces, or cut, to a length. -/
def padText (n : Nat) (t : List Nat) : List Nat := (t ++ List.replicate n 32).take n

/-- R97: the marker of a departure row. -/
def markerOf (e : RunEntry) : Nat := if e.svc.request then (if e.stopOrdered then 42 else 82) else 32

/-- R97: cells 0 to 29 of a departure row. -/
def departureHead (s : State) (e : RunEntry) : List Cell :=
  let name := match shownDest e with | some i => (stopName s i).1 | none => []
  cellsFor .normal (hhmm e.svc.dep ++ [32] ++ padText 20 name ++ [32] ++ [80, 48 + e.platform] ++ [markerOf e])

/-- R98, Table 5-4: the status text and how it is drawn. -/
def statusText (held : Bool) (e : RunEntry) : List Nat × CellAttr :=
  match e.state with
  | .running => if e.delay ≤ 0 then (text "On time", .normal) else (text "Exp " ++ hhmm (shownMinute held e), .normal)
  | .stale => (text "Exp " ++ hhmm (shownMinute held e) ++ text "?", .normal)
  | .arriving => (text "Approaching", .flash)
  | .cancelled => (text "Cancelled", .inverse)
  | .planned | .departed | .lapsed => ([], .normal)
where
  /-- R98: the expected departure as the row shows it. -/
  shownMinute (held : Bool) (e : RunEntry) : Nat := expectedOf held e

/-- R97: a text right-aligned to cell 39, over what the row holds. -/
def rightAligned (head : List Cell) (t : List Nat) (attr : CellAttr) : Row :=
  (padRow .normal head).take (40 - t.length) ++ cellsFor attr t

/-- R100: the faults of the destination's name. -/
def destFaults (s : State) (e : RunEntry) : List TableFault :=
  match shownDest e with
  | some i => nameFault s i
  | none => []

/-- R97: a departure row. -/
def departureRow (s : State) (p : Bool × RunEntry) : BuiltRow :=
  let st := statusText p.1 p.2
  (rightAligned (departureHead s p.2) st.1 st.2, destFaults s p.2)

/-- Texts joined by a comma and a space. -/
def commaJoined : List (List Nat) → List Nat
  | [] => []
  | [t] => t
  | t :: ts => t ++ text ", " ++ commaJoined ts

/-- R99: a calling row. -/
def callingRow (s : State) (e : RunEntry) : BuiltRow :=
  if e.svc.calls = [] then (spaces, [])
  else
    let t := text "Calling at " ++ commaJoined (e.svc.calls.map fun c => (stopName s c.1).1)
    let t := if t.length ≤ 40 then t else t.take 37 ++ text "..."
    (padRow .normal (cellsFor .normal t), e.svc.calls.flatMap fun c => nameFault s c.1)

/-! ### Candidates and placing (R95, R96) -/

/-- R95: a CANCELLED entry is still displayed. -/
def cancelShown (s : State) (held : Bool) (e : RunEntry) : Bool :=
  decide (s.clock.minute + (if held then 1440 else 0) < e.svc.dep + s.settings.cancelDisplay)

/-- R95: an entry is a candidate of a window. -/
def isCandidate (s : State) (w : Window) (p : Bool × RunEntry) : Bool :=
  w.platforms.getLsbD (p.2.platform - 1) && w.dirs.getLsbD (match p.2.svc.dir with | .up => 0 | .down => 1)
    && decide (p.2.state ≠ .departed ∧ p.2.state ≠ .lapsed)
    && (decide (p.2.state ≠ .cancelled) || (w.inclCanc && cancelShown s p.1 p.2))

/-- R95: the candidates in display order. -/
def candidates (s : State) (w : Window) : List (Bool × RunEntry) :=
  displayOrder ((allEntries s).filter (isCandidate s w))

/-- A row of NORMAL text from cell 0. -/
def textRow (t : List Nat) : Row := padRow .normal (cellsFor .normal t)

/-- R95: the line of a window without trains; spaces while a bank is loaded. -/
def noTrainRow (s : State) : Row := if s.tt.running = none then textRow (text "No train information") else spaces

/-- The rows of a window from those that are placed; a row that nothing uses is spaces. -/
def layRows (len : Nat) (placed : List (Nat × BuiltRow)) : List BuiltRow :=
  (List.range len).map fun i =>
    match placed.find? fun p => decide (p.1 = i) with
    | some p => p.2
    | none => (spaces, [])

/-- R96: where item number `j` of `per` rows begins. -/
def topOf (w : Window) (per j : Nat) : Nat := if w.reverse then w.length - (j + 1) * per else j * per

/-- R96: the rows of an entry in its place. -/
def entryRows (s : State) (w : Window) (per j : Nat) (p : Bool × RunEntry) : List (Nat × BuiltRow) :=
  (topOf w per j, departureRow s p) :: (if per = 2 then [(topOf w per j + 1, callingRow s p.2)] else [])

/-- R95, R96: the rows of a DEPARTURES window. -/
def departuresRows (s : State) (w : Window) : List BuiltRow :=
  let cs := candidates s w
  let per := if w.callingRows then 2 else 1
  let cap := w.length / per
  let count := if cs.length ≤ cap then cs.length else if w.moreLine then cap - 1 else cap
  let shown := ((cs.take count).mapIdx fun j p => entryRows s w per j p).flatten
  let far := if w.reverse then 0 else w.length - 1
  let more := if cap < cs.length ∧ w.moreLine = true then
      [(far, (textRow (text "+" ++ decimal (cs.length - count) ++ text " more"), []))] else []
  if cs = [] then layRows w.length [(topOf w per 0, (noTrainRow s, []))] else layRows w.length (shown ++ more)

/-! ### Next train, notices, clock (R101 to R103) -/

/-- R101: the status of row C. -/
def nextStatus (s : State) (p : Bool × RunEntry) : List Nat × CellAttr :=
  let x := expectedOf p.1 p.2
  match p.2.state with
  | .planned | .running | .stale =>
    if s.clock.minute ≤ x ∧ x ≤ s.clock.minute + 30 then
      (text "in " ++ decimal (x - s.clock.minute) ++ text " min", .normal)
    else statusText p.1 p.2
  | .arriving | .cancelled | .departed | .lapsed => statusText p.1 p.2

/-- R101: rows A, B and C. -/
def nextBlock (s : State) (p : Bool × RunEntry) : List BuiltRow :=
  let st := nextStatus s p
  [(padRow .normal (departureHead s p.2), destFaults s p.2), callingRow s p.2,
    (padRow .normal (cellsFor st.2 st.1), [])]

/-- R101: the rows of a NEXT_TRAIN window. -/
def nextTrainRows (s : State) (w : Window) : List BuiltRow :=
  let top := if w.reverse then w.length - min 3 w.length else 0
  match candidates s w with
  | [] => layRows w.length [(top, (noTrainRow s, []))]
  | p :: _ => layRows w.length ((nextBlock s p).mapIdx fun i r => (top + i, r))

/-- R102, Table 5-8: the items whose condition holds, each with its rows. -/
def noticeItems (s : State) : List (List Row) :=
  let line (attr : CellAttr) (t : List Nat) : Row := padRow attr (cellsFor attr t)
  (if s.cond.salesOpen then [] else
      [[line .inverse (text "Ticket sales closed -"), line .inverse (text "please buy on the train")]])
    ++ (if !s.pay.cardAvail && s.cond.salesOpen then [[line .normal (text "Cards not accepted")]] else [])
    ++ (if exactFare s then [[line .normal (text "Exact fare please")]] else [])
    ++ (if s.line.linkLost then [[line .normal (text "Train information may be delayed")]] else [])
    ++ ((List.range 4).filter fun i => ctrlSet s (bitBanner1 + i)).map fun i => [s.board.banners.getD i spaces]

/-- R102: the items placed one after another for as long as each fits whole. -/
def placeItems (w : Window) : Nat → List (List Row) → List (Nat × BuiltRow)
  | _, [] => []
  | used, item :: items =>
    if used + item.length ≤ w.length then
      let top := if w.reverse then w.length - used - item.length else used
      (item.mapIdx fun i r => (top + i, ((r, []) : BuiltRow))) ++ placeItems w (used + item.length) items
    else []

/-- R103: the full English name of a weekday. -/
def weekdayName : Nat → List Nat
  | 0 => text "Monday"
  | 1 => text "Tuesday"
  | 2 => text "Wednesday"
  | 3 => text "Thursday"
  | 4 => text "Friday"
  | 5 => text "Saturday"
  | _ => text "Sunday"

/-- R103: the clock row. -/
def clockRow (s : State) : Row :=
  if s.clock.valid then textRow (hhmm s.clock.minute ++ [32] ++ weekdayName s.clock.weekday)
  else textRow (text "--:--")

/-- R92: the rows of a LIVE window of a kind. -/
def builtRows (s : State) (w : Window) (k : WinKind) : List BuiltRow :=
  match k with
  | .departures => departuresRows s w
  | .nextTrain => nextTrainRows s w
  | .notices => layRows w.length (placeItems w 0 (noticeItems s))
  | .clock => layRows w.length [(if w.reverse then w.length - 1 else 0, (clockRow s, []))]

/-! ### The engine (R92) -/

/-- R92: the rows are written from the first to the last, each handing over its faults. -/
def writeBuilt : Nat → List BuiltRow → State → State
  | _, [], s => s
  | r, b :: bs, s => writeBuilt (r + 1) bs (captureFaults b.2 (writeRow r b.1 s))

/-- R92: the composition of one window. -/
def composeWindow (w : Window) (k : WinKind) (s : State) : State :=
  let cs := (candidates s w).map fun p => (p.2.svc.id, p.2.day)
  let t := writeBuilt w.base (builtRows s w k) (updWindow w.number (fun x => { x with marked := false }) s)
  if listsTrains w then evalWindowPanel w (updWindow w.number (fun x => { x with cands := cs }) t) else t

/-- R92: the engine composes the lowest-numbered marked LIVE window. -/
def compose (s : State) : State :=
  match s.board.windows.find? fun w => w.marked && w.live.isSome with
  | some w => (match w.live with | some k => composeWindow w k s | none => s)
  | none => s

/-- R93: the composer's work on a minute tick: every CLOCK, NEXT_TRAIN and DEPARTURES window is marked. -/
def boardTick (s : State) : State := markWindows (fun w => listsTrains w || decide (w.live = some .clock)) s

/-! ### The window table (R86 to R89) -/

/-- The panel entries of a WINDOWS load, in load order. -/
def loadPanels (rs : List RawWindow) : List (Nat × Byte × Nat) :=
  rs.filterMap fun | .panel p y r => some (p, y, r) | _ => none

/-- The banner texts of a WINDOWS load, in load order. -/
def loadBanners (rs : List RawWindow) : List (Nat × List Byte) :=
  rs.filterMap fun | .banner n c => some (n, c) | _ => none

/-- The window descriptors of a WINDOWS load, in load order. -/
def loadWindows (rs : List RawWindow) : List RawWindow :=
  rs.filter fun | .window _ _ _ _ _ _ _ _ _ _ _ => true | _ => false

/-- R88 check 2: a panel entry in its range. A present byte other than 0 or 1 is not refused, and its reading is free (DESIGN CHOICE, log
entry 11). -/
def panelOf (p : Nat × Byte × Nat) : Option PanelEntry :=
  if 1 ≤ p.1 ∧ p.1 ≤ 6 ∧ 1 ≤ p.2.2 ∧ p.2.2 ≤ 16 then some ⟨p.1, readYesNo p.2.1, p.2.2⟩ else none

/-- R88 check 3: a banner text in its range. -/
def bannerOf (b : Nat × List Byte) : Option (Nat × Row) :=
  if 1 ≤ b.1 ∧ b.1 ≤ 4 then (cellsOf b.2).map fun r => (b.1, r) else none

/-- Table 5-1: the key and the kind: `none` for FIXED, whose kind is not read; `none` of the outer option where R88 refuses. -/
def liveOf (key kind : Byte) : Option (Option WinKind) :=
  match bitOfByte key with
  | some false => some none
  | some true => (winKindOfByte kind).map some
  | none => none

/-- R88 check 4: a descriptor in its ranges, its panel listed and present. A new window is shown and, when LIVE, marked (R89). Bits
3 to 7 of the options byte, which Table 12-4 does not number, are not read (DESIGN CHOICE, log entry 21). -/
def windowOf (ps : List PanelEntry) : RawWindow → Option Window
  | .window n p f b l d k w pl ds o =>
    match ps.find? (fun e => decide (e.panel = p) && e.present), bitOfByte d, liveOf k w with
    | some e, some rev, some live =>
      if n ≤ 11 ∧ 1 ≤ l ∧ l ≤ 16 ∧ b ≤ 511 ∧ b + l ≤ 512 ∧ f + l ≤ e.rows ∧ pl ≠ 0 ∧ pl.toNat < 16
          ∧ ds.setWidth 2 ≠ 0#2 then
        some { number := n, panel := p, first := f, base := b, length := l, reverse := rev, live := live
               platforms := pl.setWidth 4, dirs := ds.setWidth 2, inclCanc := o.getLsbD 0, callingRows := o.getLsbD 1
               moreLine := o.getLsbD 2, shown := true, marked := live.isSome, cands := [] }
      else none
    | _, _, _ => none
  | _ => none

/-- R88 check 5: two windows that share no panel row, and no store row when both are LIVE. -/
def windowsApart (a b : Window) : Bool :=
  (decide (a.panel ≠ b.panel) || decide (a.first + a.length ≤ b.first ∨ b.first + b.length ≤ a.first))
    && (!(a.live.isSome && b.live.isSome) || decide (a.base + a.length ≤ b.base ∨ b.base + b.length ≤ a.base))

/-- R86: a window at its place in the order of numbers. -/
def insertWindow (w : Window) : List Window → List Window
  | [] => [w]
  | x :: xs => if x.number < w.number then x :: insertWindow w xs else w :: x :: xs

/-- R86: the four banner texts; one that is not carried is spaces. -/
def bannersOf (bs : List (Nat × Row)) : List Row :=
  [1, 2, 3, 4].map fun n =>
    match bs.find? fun b => decide (b.1 = n) with
    | some b => b.2
    | none => spaces

/-- A window table that has passed its validation. -/
structure WindowTable where
  panels  : List PanelEntry
  windows : List Window
  banners : List Row
  deriving DecidableEq, Repr

/-- R88: the validation of a WINDOWS load. -/
def validateWindows (rs : List RawWindow) : Except Reason WindowTable :=
  if 6 < (loadPanels rs).length ∨ 12 < (loadWindows rs).length then .error .capacity
  else
    match allSome ((loadPanels rs).map panelOf), allSome ((loadBanners rs).map bannerOf) with
    | some ps, some bs =>
      if ¬ (ps.map PanelEntry.panel).Nodup ∨ ¬ (bs.map Prod.fst).Nodup then .error .field
      else
        match allSome ((loadWindows rs).map (windowOf ps)) with
        | some ws =>
          if ¬ (ws.map Window.number).Nodup then .error .field
          else if ¬ ws.Pairwise (fun a b => windowsApart a b = true) then .error .overlap
          else .ok ⟨ps, ws.foldr insertWindow [], bannersOf bs⟩
        | none => .error .field
    | _, _ => .error .field

/-- R104: the composer at a line restart: candidate sets emptied, every LIVE window marked. -/
def boardRestart (s : State) : State :=
  markLive { s with board := { s.board with windows := s.board.windows.map fun w => { w with cands := [] } } }

/-! ### Meanings -/

/-- ROW_WRITE (R90). -/
def execRowWrite (to_ : Dest) (body : List Byte) (s : State) : Host.Outcome State Fault Refusal :=
  whenPowered (takeRowWrite to_ body) s

/-- COMPOSITION (R92). -/
def execComposition (s : State) : Host.Outcome State Fault Refusal := whenPowered compose s

end Sys2Proof.Machine
end

