-- ==== Sys2Proof/Machine/Panel.lean ====
section
/-! DEFINITION. The panel port (chapter 6): panel records, modes, the bus arbiter, acknowledgement and silence. -/

namespace Sys2Proof.Machine

/-! ### Modes (R107) -/

/-- R107: a record takes a mode, and the effective mode of its panel is evaluated. The mode already held changes nothing. -/
def setPanelMode (p : Nat) (m : PanelMode) (s : State) : State :=
  match panelRec s p with
  | some r => if r.mode = m then s else evalPanel p (updPanel p (fun r => { r with mode := m }) s)
  | none => s

/-- R107, R32: a consumed PANEL MODE. -/
def takePanelMode (body : List Byte) (s : State) : State :=
  match body with
  | [p, m] =>
    if 1 ≤ p.toNat ∧ p.toNat ≤ 6 then
      (match modeOfByte m with
       | some m => setPanelMode p.toNat m s
       | none => s)
    else s
  | _ => s

/-- The panel port's work on a minute tick (R108). It is part of the tick, so that the compositions which the tick's marks bring about
come after it (DESIGN CHOICE, log entry 40). -/
def panelTick (s : State) : State := evalPanels s

/-! ### The panel list (R105, R106) -/

/-- R106: a panel that is present after the commit, with its new row count. -/
def keepPanel (rows : Nat) (r : PanelRec) : PanelRec :=
  if r.present then { r with marks := List.replicate rows true, modePending := true }
  else
    { r with present := true, marks := List.replicate rows true, silent := false, miss := 0, modePending := true
             pingTimer := none, pingDue := false }

/-- R106: a panel that is not present after the commit. -/
def dropPanel (r : PanelRec) : PanelRec :=
  if r.present then
    { r with present := false, marks := [], silent := false, miss := 0, modePending := false, pingTimer := none
             pingDue := false }
  else r

/-- R105: the row count a panel list gives a panel that is present. -/
def listedRows (ps : List PanelEntry) (p : Nat) : Option Nat :=
  (ps.find? fun e => decide (e.panel = p) && e.present).map (·.rows)

/-- R106: the panel port takes a new panel list. -/
def takePanelList (ps : List PanelEntry) (s : State) : State :=
  let recs := s.panels.recs.mapIdx fun i r =>
    match listedRows ps (i + 1) with
    | some n => keepPanel n r
    | none => dropPanel r
  let inFlight := match s.panels.inFlight with
    | some (p, m) => if (listedRows ps p).isSome then some (p, m) else none
    | none => none
  evalPanels { s with panels := { s.panels with recs := recs, inFlight := inFlight } }

/-- R89, R106: the commit of a WINDOWS load. -/
def commitWindows (version : Nat) (rs : List RawWindow) (s : State) : State × Answer :=
  match validateWindows rs with
  | .error why => (s, .refused why)
  | .ok t =>
    (takePanelList t.panels { s with board := { s.board with
        version := version, panels := t.panels, windows := t.windows, banners := t.banners } }, .committed)

/-! ### The bus (R109, R211) -/

/-- R109: a panel is waiting. -/
def waiting (r : PanelRec) : Bool :=
  r.present && (if r.silent then r.pingDue else r.modePending || (decide (r.eff ≠ .off) && r.marks.any id))

/-- R109: the panels in turn after the round-robin place. -/
def turns (place : Nat) : List Nat := (List.range 6).map fun i => (place + i) % 6 + 1

/-- R109: the first waiting panel after the round-robin place. -/
def nextPanel (s : State) : Option (Nat × PanelRec) :=
  (turns s.panels.place).findSome? fun p =>
    match panelRec s p with
    | some r => if waiting r then some (p, r) else none
    | none => none

/-- R211: a panel bus message. -/
def busChars (panel type : Nat) (body : List Byte) : List Byte := withCheck ([byte panel, byte type] ++ body)

/-- R109: the message of a panel's turn: its kind, its characters, and the record after it is sent. -/
def turnMessage (s : State) (p : Nat) (r : PanelRec) : BusMsg × List Byte × PanelRec :=
  if r.silent then (.ping, busChars p 3 [], { r with pingDue := false })
  else if r.modePending then (.mode, busChars p 2 [byte (modeCode r.eff)], { r with modePending := false })
  else
    let row := r.marks.findIdx id
    (.row row, busChars p 1 (byte row :: rowBytes (panelContent s p row)), { r with marks := r.marks.set row false })

/-- R109: with no transaction in flight and a panel waiting, the arbiter begins one. -/
def beginTransaction (s : State) : State :=
  if s.panels.inFlight.isSome then s
  else
    match nextPanel s with
    | none => s
    | some (p, r) =>
      let m := turnMessage s p r
      let t := updPanel p (fun _ => m.2.2) s
      send (.bus m.2.1) { t with panels := { t.panels with place := p, inFlight := some (p, m.1) } }

/-! ### Acknowledgement and silence (R110, R111, R212) -/

/-- R212: the panel a message received is an ACK from. -/
def ackFrom (chars : List Byte) : Option Nat :=
  match chars with
  | [p, t, _, _] =>
    if t = 4 ∧ checkGood chars = true ∧ 1 ≤ p.toNat ∧ p.toNat ≤ 6 then some p.toNat else none
  | _ => none

/-- R111: a panel returns from silence. A ping that is still due stops being due (DESIGN CHOICE, log entry 42). -/
def returned (r : PanelRec) : PanelRec :=
  { markAllRows r with silent := false, miss := 0, pingTimer := none, pingDue := false, modePending := true }

/-- R110, R111: the addressed panel has acknowledged. -/
def acked (m : BusMsg) (r : PanelRec) : PanelRec :=
  match m with
  | .ping => returned r
  | .row _ | .mode => { r with miss := 0 }

/-- R110: an ACK ends the transaction in flight when the addressed panel sent it. -/
def takeAck (chars : List Byte) (s : State) : State :=
  match ackFrom chars, s.panels.inFlight with
  | some q, some (p, m) =>
    if q = p then updPanel p (acked m) { s with panels := { s.panels with inFlight := none } } else s
  | _, _ => s

/-- R110: what a missed message marks again. -/
def remarked (m : BusMsg) (r : PanelRec) : PanelRec :=
  match m with
  | .row i => { r with marks := r.marks.set i true }
  | .mode => { r with modePending := true }
  | .ping => r

/-- R110, R111: a miss of a panel that is not silent; the third makes it silent. -/
def missed (m : BusMsg) (r : PanelRec) : PanelRec :=
  let r := remarked m r
  if r.silent then r
  else if r.miss + 1 = 3 then { r with miss := 3, silent := true, pingTimer := some 0 }
  else { r with miss := r.miss + 1 }

/-- R110: the transaction in flight ends as missed. -/
def expireTransaction (s : State) : State :=
  match s.panels.inFlight with
  | none => s
  | some (p, m) =>
    let t := { s with panels := { s.panels with inFlight := none } }
    match panelRec t p with
    | none => t
    | some r => raiseIf (!r.silent && (missed m r).silent) .panelSilent (updPanel p (missed m) t)

/-- R111: the ping timer of a silent panel expires: a ping becomes due and the timer restarts. -/
def pingExpires (p : Nat) (s : State) : State :=
  updPanel p (fun r => if r.pingTimer.isSome then { r with pingDue := true, pingTimer := some 0 } else r) s

/-! ### Line restart (R112) -/

/-- R112 steps 2 and 3, for a present panel. A ping that is still due stops being due (DESIGN CHOICE, log entry 42). -/
def restartPanel (r : PanelRec) : PanelRec :=
  if r.present then
    { markAllRows r with silent := false, miss := 0, pingTimer := none, pingDue := false, modePending := true }
  else r

/-- R112: the panel port at a line restart. -/
def panelRestart (s : State) : State :=
  evalPanels { s with panels := { recs := s.panels.recs.map restartPanel, place := 6, inFlight := none } }

/-! ### Meanings -/

/-- PANEL_MODE (R107). -/
def execPanelMode (_to : Dest) (body : List Byte) (s : State) : Host.Outcome State Fault Refusal :=
  whenPowered (takePanelMode body) s

/-- BUS_TRANSACTION (R109). -/
def execBusTransaction (s : State) : Host.Outcome State Fault Refusal := whenPowered beginTransaction s

/-- ACK (R110, R212): a message received from the panel bus. -/
def execAck (chars : List Byte) (s : State) : Host.Outcome State Fault Refusal := whenPowered (takeAck chars) s

/-- ACK_EXPIRY (R110). -/
def execAckExpiry (s : State) : Host.Outcome State Fault Refusal := whenPowered expireTransaction s

/-- PING_TIMER_EXPIRY (R111). -/
def execPingTimerExpiry (panel : Nat) (s : State) : Host.Outcome State Fault Refusal := whenPowered (pingExpires panel) s

end Sys2Proof.Machine
end

