-- ==== Sys2Proof/Machine/Journal.lean ====
section
/-! DEFINITION. The journal unit (chapter 10): serials, the record's life, the day's figures, upload and acknowledgement, recovery;
and the spend tally (R170), which takes a card sale at the close of its record. -/

namespace Sys2Proof.Machine

/-! ### Record bytes (R208, Table 12-7) -/

/-- Table 12-3: the code of a product. -/
def productCode : Product → Nat
  | .single => 0
  | .ret => 1

/-- Table 12-3: the code of a band. -/
def bandCode : Band → Nat
  | .offPeak => 0
  | .peak => 1

/-- Table 12-3: the code of a medium. -/
def mediumCode : Medium → Nat
  | .coin => 0
  | .card => 1

/-- Table 12-3: the code of a void reason. -/
def voidCode : VoidReason → Nat
  | .none => 0
  | .printFault => 1
  | .printTimeout => 2
  | .powerLoss => 3
  | .restart => 4

/-- R209: the kind byte of a SALE, VOID or open record. -/
def recKindCode : RecKind → Nat
  | .opened => 0
  | .sale => 1
  | .void => 2

/-- Table 12-7: the service id and the service day; 65535 and 0 for ANY. -/
def serviceBytes : Chosen → List Byte
  | .any => beBytes 2 65535 ++ beBytes 2 0
  | .train id day => beBytes 2 id ++ beBytes 2 day

/-- R208: the 48 bytes of a record. -/
def recordBytes : JRecord → List Byte
  | .ticket r =>
    beBytes 4 r.seq ++ [byte (recKindCode r.kind), byte (bit01 r.printed + 2 * bit01 r.recovered)]
      ++ beBytes 2 r.day ++ beBytes 2 r.minute ++ beBytes 4 r.serial ++ [byte r.dest] ++ serviceBytes r.service
      ++ [byte (productCode r.product), byte (bandCode r.band), byte r.party.na, byte r.party.nc, byte r.party.nq]
      ++ beBytes 2 r.adult ++ beBytes 2 r.child ++ beBytes 2 r.conc ++ beBytes 4 r.amount ++ [byte (mediumCode r.medium)]
      ++ beBytes 8 r.token ++ [byte r.changeGiven, byte r.changeOwed] ++ beBytes 2 r.version ++ [byte (voidCode r.reason)]
  | .dayClose seq d =>
    beBytes 4 seq ++ [3, 0] ++ beBytes 2 d.day ++ beBytes 2 d.minute ++ beBytes 2 d.totals.sales ++ beBytes 4 d.totals.coin
      ++ beBytes 4 d.totals.card ++ beBytes 2 d.totals.voids ++ beBytes 2 d.totals.carried ++ List.replicate 24 0

/-! ### The ring (R173, R175) -/

/-- R190, R209: the open record: the newest stored record, when it has no kind. -/
def openRec (s : State) : Option SaleRec :=
  if s.ret.ackPoint < s.ret.nextSeq then
    match ringAt s (ringPlace (s.ret.nextSeq - 1)) with
    | some (.ticket r) => if r.kind = .opened then some r else none
    | _ => none
  else none

/-- A ring place takes a record, or becomes empty. -/
def putRing (place : Nat) (r : Option JRecord) (s : State) : State :=
  { s with ret := { s.ret with ring := Memory.write none place r s.ret.ring } }

/-- R175: a record is written at the write point with the next sequence, which rises by 1. -/
def appendRecord (r : JRecord) (s : State) : State :=
  let s := putRing (writePoint s) (some r) s
  { s with ret := { s.ret with nextSeq := s.ret.nextSeq + 1 } }

/-- The newest stored record replaced. -/
def putNewest (r : SaleRec) (s : State) : State := putRing (ringPlace (s.ret.nextSeq - 1)) (some (.ticket r)) s

/-! ### The reservation (R178) -/

/-- R178: the journal can give a reservation. -/
def reservable (s : State) : Bool :=
  decide (fill s < Config.ringPlaces) && !s.jrn.reserved && (openRec s).isNone
    && decide (s.ret.nextSeq < Config.lastSequence)

/-! ### Serials (R182) -/

/-- R182: a serial is taken; the standby block takes over when the current block empties. STANDBY_TAKEN is raised at once, before the
record is opened and before SERIALS_LOW where the same serial causes it (DESIGN CHOICE, log entry 12). The flags that rest on the serials
remaining are evaluated later, by `openRecord`. -/
def takeSerial (s : State) : State :=
  let cur : SerialBlock := ⟨s.ret.current.first + 1, s.ret.current.count - 1⟩
  let s := { s with ret := { s.ret with lastSerial := s.ret.current.first, current := cur } }
  if cur.count = 0 ∧ s.ret.standby.count ≠ 0 then
    raiseNotice .standbyTaken { s with ret := { s.ret with current := s.ret.standby, standby := ⟨0, 0⟩ } }
  else s

/-! ### Opening and closing the record (R180, R181) -/

/-- R180, Table 10-2: the open record of the sale in progress, with the serial taken. -/
def recordOf (s : State) (serial : Nat) (q : Quote) (dest : Nat) (product : Product) (party : Party) (medium : Medium) :
    SaleRec :=
  { seq := s.ret.nextSeq, kind := .opened, printed := false, recovered := false, day := s.clock.day
    minute := s.clock.minute, serial := serial, dest := dest, service := s.sale.service.getD .any, product := product
    band := q.band, party := party, adult := q.adult.getD 0, child := q.child.getD 0, conc := q.conc.getD 0
    amount := q.total, medium := medium, token := s.sale.token.getD 0, changeGiven := 0, changeOwed := s.sale.planned
    version := q.version, reason := .none }

/-- R180: the reservation becomes the open record, with the next serial, in one event. STANDBY_TAKEN, with the ALERT it causes, comes with
the serial, at step 1. NO_SERIALS and the low state are evaluated when step 4 is done: so SERIALS_OUT and SERIALS_LOW, with the ALERT
they cause and the fall of SALES_OPEN, come after the record is written and the reservation ended, whether or not STANDBY_TAKEN was
raised, and before PRINT. R180 and R182 do not say at which step they come (DESIGN CHOICE, log entry 12). -/
def openRecord (s : State) : State :=
  match s.sale.quote, s.sale.dest, s.sale.product, s.sale.party, s.sale.medium with
  | some q, some dest, some product, some party, some medium =>
    let s := takeSerial s
    let s := appendRecord (.ticket (recordOf s s.ret.lastSerial q dest product party medium)) s
    let s := { s with jrn := { s.jrn with reserved := false }
                      sale := { s.sale with reserved := false, serial := some s.ret.lastSerial } }
    evalSerials s
  | _, _, _, _, _ => s

/-- R177: a figure that stays at its greatest value. -/
def addUpTo (top a b : Nat) : Nat := min (a + b) top

/-- R177: the day totals take a closed record. -/
def countRecord (r : SaleRec) (t : Totals) : Totals :=
  match r.kind, r.medium with
  | .sale, .coin => { t with sales := addUpTo 65535 t.sales 1, coin := addUpTo 4294967295 t.coin r.amount }
  | .sale, .card => { t with sales := addUpTo 65535 t.sales 1, card := addUpTo 4294967295 t.card r.amount }
  | .void, _ => { t with voids := addUpTo 65535 t.voids 1 }
  | .opened, _ => t

/-- R188, R189: the figures of two days together; the carried days count the day that is added. -/
def addTotals (a b : Totals) : Totals :=
  { sales := addUpTo 65535 a.sales b.sales, coin := addUpTo 4294967295 a.coin b.coin
    card := addUpTo 4294967295 a.card b.card, voids := addUpTo 65535 a.voids b.voids
    carried := addUpTo 65535 a.carried (1 + b.carried) }

/-- R188: a DAY_CLOSE is written. -/
def writeDayClose (d : DayClose) (s : State) : State := appendRecord (.dayClose s.ret.nextSeq d) s

/-- R189: a pending day close is settled: written when there is room, added to the day totals otherwise. -/
def settlePending (s : State) : State :=
  match s.ret.pendingClose with
  | none => s
  | some d =>
    let s := { s with ret := { s.ret with pendingClose := none } }
    if fill s < Config.ringPlaces ∧ s.ret.nextSeq < Config.lastSequence then writeDayClose d s
    else { s with ret := { s.ret with totals := addTotals s.ret.totals d.totals } }

/-- R181 step 2, R190 step 2: the open record closes as `r`, and the day totals take it. -/
def closeAs (r : SaleRec) (s : State) : State :=
  let s := putNewest r s
  { s with ret := { s.ret with totals := countRecord r s.ret.totals } }

/-! ### The spend tally (R170) -/

/-- R170: the entry that is removed first: the earliest last use, and of these the lowest token. -/
def evicted : List TallyEntry → Option TallyEntry
  | [] => none
  | e :: es =>
    match evicted es with
    | none => some e
    | some f => if e.lastUse < f.lastUse ∨ (e.lastUse = f.lastUse ∧ e.token < f.token) then some e else some f

/-- A tally entry at its place in ascending order of tokens. -/
def insertTally (e : TallyEntry) : List TallyEntry → List TallyEntry
  | [] => [e]
  | f :: fs => if e.token < f.token then e :: f :: fs else f :: insertTally e fs

/-- R170: the tally takes a closed card sale. -/
def tallyTake (token amount minute : Nat) (l : List TallyEntry) : List TallyEntry :=
  if l.any fun e => decide (e.token = token) then
    l.map fun e =>
      if e.token = token then { e with total := e.total + amount, count := e.count + 1, lastUse := minute } else e
  else
    let l :=
      if l.length < Config.tallyCap then l
      else match evicted l with
        | some v => l.filter fun e => decide (e.token ≠ v.token)
        | none => l
    insertTally ⟨token, amount, 1, minute⟩ l

/-- R181: the open record closes, in the order of its steps. `finish` gives the record its kind, change and reason; `onL2` follows a
change of JOURNAL_L2, which a day close settled here may bring. -/
def closeRecordWith (onL2 : State → State) (finish : SaleRec → SaleRec) (s : State) : State :=
  match openRec s with
  | none => s
  | some r =>
    let r := finish r
    let s := closeAs r s
    let s :=
      if r.kind = .sale ∧ r.medium = .card then
        { s with pay := { s.pay with tally := tallyTake r.token r.amount s.clock.minute s.pay.tally } }
      else s
    evalFillWith onL2 (settlePending s)

/-- R181, R195: the open record closes, and SALES_OPEN follows a change of JOURNAL_L2. -/
def closeRecord (finish : SaleRec → SaleRec) (s : State) : State := closeRecordWith evalSalesOpen finish s

/-- R181: a close as SALE with the change given and owed. -/
def asSale (given owed : Nat) (r : SaleRec) : SaleRec :=
  { r with kind := .sale, recovered := false, changeGiven := given, changeOwed := owed, reason := .none }

/-- R148, R176: a close as VOID with its reason. -/
def asVoid (why : VoidReason) (r : SaleRec) : SaleRec :=
  { r with kind := .void, recovered := false, changeGiven := 0, changeOwed := 0, reason := why }

/-- R190, R191: how the part itself closes an open record: as a recovered SALE when it is printed, else as VOID. -/
def asRecovered (why : VoidReason) (r : SaleRec) : SaleRec :=
  if r.printed then { r with kind := .sale, recovered := true, changeGiven := 0, reason := .none } else asVoid why r

/-- R181: the open record's printed mark. -/
def markPrinted (s : State) : State :=
  match openRec s with
  | none => s
  | some r => putNewest { r with printed := true } s

/-! ### Recovery (R190, R191) -/

/-- R190 steps 1 to 3, R191 steps 2 to 4: an open record is closed, the totals take it, a pending day close is settled. -/
def recoverRecord (why : VoidReason) (s : State) : State :=
  match openRec s with
  | none => settlePending s
  | some r => settlePending (closeAs (asRecovered why r) s)

/-- R179, R182: the four flags are evaluated with no notice raised, at a cold start and at a line restart. -/
def evalJournalQuiet (s : State) : State :=
  { s with jrn := { s.jrn with
      l1 := l1Now s, l2 := l2Now s, noSerials := noSerialsNow s, serialsLow := serialsLowNow s } }

/-- R191: the journal unit's work at a line restart. -/
def journalRestart (s : State) : State :=
  let s := { s with jrn := { s.jrn with reserved := false } }
  evalJournalQuiet (sendPointReturns (recoverRecord .restart s))

/-! ### Day end (R188) -/

/-- R188, Table 10-5: the accounts of day `d`, which ended at minute `m`. -/
def journalDayEnd (d m : Nat) (s : State) : State :=
  match s.ret.pendingClose with
  | some p =>
    { s with ret := { s.ret with pendingClose := some ⟨addTotals p.totals s.ret.totals, d, m⟩, totals := .zero } }
  | none =>
    if (openRec s).isSome then
      { s with ret := { s.ret with pendingClose := some ⟨s.ret.totals, d, m⟩, totals := .zero } }
    else if fill s < Config.ringPlaces ∧ s.ret.nextSeq + bit01 s.jrn.reserved < Config.lastSequence then
      let t := writeDayClose ⟨s.ret.totals, d, m⟩ s
      evalFill { t with ret := { t.ret with totals := .zero } }
    else
      { s with ret := { s.ret with totals := { s.ret.totals with carried := addUpTo 65535 s.ret.totals.carried 1 } } }

/-! ### Upload (R184 to R187) -/

/-- R184: the number of outstanding records. -/
def outstandingCount (s : State) : Nat := s.jrn.sendPoint - s.ret.ackPoint

/-- R184: the sequence at which building stops: the open record, or the next sequence when none is open. -/
def uploadLimit (s : State) : Nat := if (openRec s).isSome then s.ret.nextSeq - 1 else s.ret.nextSeq

/-- R184: the conditions for building a JOURNAL frame. -/
def buildable (s : State) : Bool :=
  !s.line.linkLost && decide (3 ≤ freePlaces s) && decide (s.jrn.sendPoint < uploadLimit s)
    && decide (outstandingCount s < Config.outstandingMax)

/-- R184: how many records the frame takes. -/
def buildCount (s : State) : Nat :=
  min 4 (min (Config.outstandingMax - outstandingCount s) (uploadLimit s - s.jrn.sendPoint))

/-- R184: the bytes of `n` stored records from a sequence on. -/
def recordsFrom (s : State) (seq n : Nat) : List Byte :=
  (List.range n).flatMap fun i =>
    match ringAt s (ringPlace (seq + i)) with
    | some r => recordBytes r
    | none => []

/-- R184: a JOURNAL frame is built and handed to the own-frame queue. -/
def buildJournal (s : State) : State :=
  if buildable s then
    let n := buildCount s
    let body := byte n :: recordsFrom s s.jrn.sendPoint n
    handOwn .journal body
      { s with jrn := { s.jrn with
          sendPoint := s.jrn.sendPoint + n, highPoint := max s.jrn.highPoint (s.jrn.sendPoint + n) } }
  else s

/-- R185: a JOURNAL frame has left: the ack timer restarts when records are outstanding. -/
def journalLeft (s : State) : State :=
  if outstandingCount s = 0 then s else { s with jrn := { s.jrn with ackTimer := some 0 } }

/-- R186 step 3: the places of `n` records from the ack point on become empty. -/
def clearPlaces (s : State) (n : Nat) : List (Nat × Option JRecord) :=
  (List.range n).foldl (fun ring i => Memory.write none (ringPlace (s.ret.ackPoint + i)) none ring) s.ret.ring

/-- R186: an acknowledgement of every stored record up to `n`. -/
def acknowledge (n : Nat) (s : State) : State :=
  let n := if s.jrn.highPoint ≤ n then s.jrn.highPoint - 1 else n
  if n < s.ret.ackPoint then s
  else
    let send' := max s.jrn.sendPoint (n + 1)
    let s := { s with
      ret := { s.ret with ring := clearPlaces s (n + 1 - s.ret.ackPoint), ackPoint := n + 1 }
      jrn := { s.jrn with sendPoint := send', ackTimer := if send' = n + 1 then none else some 0 } }
    evalFill s

/-- R185, R187: the ack timer expires, and the send point returns to the ack point. -/
def ackExpires (s : State) : State := if s.jrn.ackTimer.isSome then sendPointReturns s else s

/-! ### The frames SERIAL BLOCK (R183) and JOURNAL ACK (R186) -/

/-- R182: the highest serial of a block. -/
def highestSerial (b : SerialBlock) : Nat := b.first + b.count - 1

/-- R183 check 2: the block lies above every serial taken and every block held. -/
def serialsRise (s : State) (first : Nat) : Bool :=
  decide (s.ret.lastSerial < first)
    && decide (s.ret.current.count = 0 ∨ highestSerial s.ret.current < first)
    && decide (s.ret.standby.count = 0 ∨ highestSerial s.ret.standby < first)

/-- R183: the checks of a serial block, and its place. -/
def takeBlock (first count : Nat) (s : State) : State × Answer :=
  if count < 1 ∨ 100000 < count ∨ first = 0 ∨ 4294967295 < first + count - 1 then (s, .refused .field)
  else if serialsRise s first = false then (s, .refused .order)
  else if s.ret.current.count = 0 then
    (evalSerials { s with ret := { s.ret with current := ⟨first, count⟩ } }, .accepted)
  else if s.ret.standby.count = 0 then
    (evalSerials { s with ret := { s.ret with standby := ⟨first, count⟩ } }, .accepted)
  else (s, .full)

/-- R183, R32: a consumed SERIAL BLOCK. -/
def takeSerialBlock (to_ : Dest) (body : List Byte) (s : State) : State :=
  match body with
  | [f3, f2, f1, f0, c3, c2, c1, c0] =>
    let r := takeBlock (beNat [f3, f2, f1, f0]) (beNat [c3, c2, c1, c0]) s
    answer to_ 0x11 r.2 noRef r.1
  | _ => answer to_ 0x11 (.refused .field) noRef s

/-- R186, R32: a consumed JOURNAL ACK. -/
def takeJournalAck (body : List Byte) (s : State) : State :=
  match body with
  | [n3, n2, n1, n0] => acknowledge (beNat [n3, n2, n1, n0]) s
  | _ => s

/-! ### Meanings -/

/-- SERIAL_BLOCK (R183). -/
def execSerialBlock (to_ : Dest) (body : List Byte) (s : State) : Host.Outcome State Fault Refusal :=
  whenPowered (takeSerialBlock to_ body) s

/-- JOURNAL_ACK (R186). -/
def execJournalAck (_to : Dest) (body : List Byte) (s : State) : Host.Outcome State Fault Refusal :=
  whenPowered (takeJournalAck body) s

/-- JOURNAL_BUILD (R184): one frame. -/
def execJournalBuild (s : State) : Host.Outcome State Fault Refusal := whenPowered buildJournal s

/-- ACK_TIMER_EXPIRY (R185, R187). -/
def execAckTimerExpiry (s : State) : Host.Outcome State Fault Refusal := whenPowered ackExpires s

end Sys2Proof.Machine
end

