-- ==== Sys2Proof/Machine/Sale.lean ====
section
/-! DEFINITION. The sale controller (chapter 8): choosing, confirming, payment complete, issue and settlement, and what changes
around a sale in progress. -/

namespace Sys2Proof.Machine

/-! ### The inactivity timer (R140) -/

/-- R140: the inactivity timer restarts while the sale is in SELECTING, QUOTED or PAYING. -/
def touch (s : State) : State :=
  if saleOpen s then { s with sale := { s.sale with inactivity := some 0 } } else s

/-- R140, R141: a sale in SELECTING, QUOTED or PAYING is abandoned. -/
def abandonOpen (why : CloseReason) (s : State) : State := if saleOpen s then abandon why s else s

/-- R140: the inactivity timer expires. -/
def inactivityExpires (s : State) : State :=
  if s.sale.inactivity.isSome then abandonOpen .timeout s else s

/-! ### Offers and quotes (R133, R136) -/

/-- R133, R143: the offer query is made for a stop; its services become the current offer and OFFER is sent. -/
def makeOffer (stop : Nat) (s : State) : State :=
  let l := offered s stop
  let t := captureFaults (offerFaults s l) s
  tellConsole (.offer (l.map (offerLine s)))
    { t with sale := { t.sale with offer := l.map fun p => (p.2.svc.id, p.2.day) } }

/-- QUOTE (Table 8-2). -/
def quoteMsg (q : Quote) : ConsoleMsg := .quote q.adult q.child q.conc q.total q.band

/-- R136: a quote is requested when destination, product and party are all set. -/
def requestQuote (s : State) : State :=
  match s.sale.dest, s.sale.product, s.sale.party with
  | some d, some p, some n =>
    match quoteFor s ⟨d, s.sale.service.getD .any, p, n⟩ with
    | .quote q => tellConsole (quoteMsg q) { s with sale := { s.sale with quote := some q, state := .quoted } }
    | .refused r f =>
      let t := captureFaults f.toList s
      tellConsole (.refused (.quote r)) { t with sale := { t.sale with quote := none, state := .selecting } }
  | _, _, _ => s

/-! ### Changes around a sale (R143, R144) -/

/-- R143: the timetable unit tells that a service has ceased to be sellable. A service that is chosen and offered is quoted for ANY
first and its new OFFER follows (DESIGN CHOICE, log entry 38). -/
def tellCeased (id day : Nat) (s : State) : State :=
  let chosen := decide (s.sale.service = some (.train id day))
  let gone (s : State) : State := tellConsole (.serviceGone id) { s with sale := { s.sale with service := some .any, request := false } }
  match s.sale.state with
  | .selecting | .quoted =>
    let t := if chosen then requestQuote (gone s) else s
    if (id, day) ∈ s.sale.offer then
      (match t.sale.dest with | some d => makeOffer d t | none => t)
    else t
  | .paying => if chosen then gone s else s
  | .idle | .issuing | .settling => s

/-- R81, R143: several services have ceased to be sellable, told in the order given. -/
def tellAllCeased (keys : List (Nat × Nat)) (s : State) : State := keys.foldl (fun s k => tellCeased k.1 k.2 s) s

/-- R144: a FARES commit finds the sale. -/
def requoteSale (s : State) : State :=
  if s.sale.state = .selecting ∨ s.sale.state = .quoted then requestQuote s else s

/-! ### Payment complete (R145, R146) -/

/-- R146: a fare on the ticket, for a kind whose count is 1 or more. -/
def ticketFare (count : Nat) (fare : Option Nat) : Option Nat := if 1 ≤ count then fare else none

/-- R146: the train on the ticket: its scheduled departure as local time, and its id; `none` for ANY TRAIN. -/
def ticketTrain (s : State) (c : Chosen) : Option (Option (Nat × Nat) × Nat) :=
  match c with
  | .any => none
  | .train id day => some ((findEntry s id day).map fun p => localTime p.2.svc.dep, id)

/-- R146: the ticket of a sale. -/
def ticketOf (s : State) (q : Quote) (p : Product) (n : Party) (m : Medium) : Ticket :=
  { serial := s.sale.serial.getD 0, day := s.clock.day, time := localTime s.clock.minute
    fromName := q.homeName, fromCode := q.homeCode, toName := q.destName, toCode := q.destCode
    train := ticketTrain s (s.sale.service.getD .any), product := p, band := q.band, party := n
    adult := ticketFare n.na q.adult, child := ticketFare n.nc q.child, conc := ticketFare n.nq q.conc
    total := q.total, medium := m, version := q.version }

/-- R145 step 4: PRINT is sent with the ticket. -/
def sendPrint (s : State) : State :=
  match s.sale.quote, s.sale.product, s.sale.party, s.sale.medium with
  | some q, some p, some n, some m => send (.print (ticketOf s q p n m)) s
  | _, _, _, _ => s

/-- R145: payment complete, in the order of its steps; then acceptance becomes off and the card module is disarmed. For coins this is
the order of R159. For a card R166 names the DISARM before the acceptance state and orders neither against PRINT: the model sends
PRINT, ACCEPT(off), DISARM (DESIGN CHOICE, log entry 45). -/
def paymentComplete (paid : Nat) (m : Medium) (token : Option Nat) (planned : Nat) (s : State) : State :=
  let s := { s with sale := { s.sale with
    paid := paid, medium := some m, token := token, planned := planned, inactivity := none, state := .issuing } }
  let s := sendPrint (openRecord s)
  evalArm (evalAccept { s with sale := { s.sale with print := some 0 } })

/-! ### Confirming (R137, R138) -/

/-- R145: PAY PROGRESS with paid and remaining. -/
def payProgress (s : State) : State := tellConsole (.payProgress s.sale.paid (saleTotal s - s.sale.paid)) s

/-- R137 step 3, R138: the sale enters PAYING; a quote of total 0 completes the payment at once. That ACCEPT(on) goes before ARM is the
model's choice (DESIGN CHOICE, log entry 45). -/
def enterPaying (s : State) : State :=
  let s := { s with sale := { s.sale with state := .paying, paid := 0 } }
  let s := touch (payProgress (evalArm (evalAccept s)))
  if saleTotal s = 0 then
    paymentComplete 0 .coin none 0 { s with pay := { s.pay with plan := some ⟨0, 0, 0, 0⟩ } }
  else s

/-- R137 step 2: the reservation is taken; the rise of JOURNAL_L2 it may cause closes the sale. -/
def takeReservation (s : State) : State :=
  evalFill { s with jrn := { s.jrn with reserved := true }, sale := { s.sale with reserved := true } }

/-- R137: a CONFIRM in QUOTED. -/
def confirmQuoted (total : Nat) (q : Quote) (s : State) : State :=
  if total ≠ q.total then tellConsole (quoteMsg q) (tellConsole (.refused .quoteChanged) s)
  else if reservable s = false then tellConsole (.refused .journalFull) s
  else
    let s := takeReservation s
    if s.sale.state = .quoted then enterPaying s else s

/-! ### The journal record closes, the sale completes (R147 to R151) -/

/-- R151: request stop of a train's record: as its entry holds it, or, once the entry is gone, as the sale context keeps it (log entry
17). -/
def asksStop (s : State) (id day : Nat) : Bool :=
  match findEntry s id day with
  | some (_, e) => e.svc.request
  | none => s.sale.request

/-- R151 step 1: the stop request of a completed sale. A train whose entry is gone is NOT_REQUESTABLE (R75). -/
def lodgeForSale (s : State) : State × StopOutcome :=
  match s.sale.service.getD .any with
  | .any => (s, .none)
  | .train id day => if asksStop s id day then lodge id day .sale s else (s, .none)

/-- R151: the sale context keeps request stop of the train it holds, as the entry of that train now has it (log entry 17). -/
def keepRequest (s : State) : State :=
  match s.sale.service with
  | some (.train id day) => { s with sale := { s.sale with request := asksStop s id day } }
  | some .any | none => s

/-- R151: for LODGED and MERGED, the state in which the request stands. -/
def outcomeState (s : State) (o : StopOutcome) (c : Chosen) : Option ReqState :=
  match o, c with
  | .lodged, .train id day | .merged, .train id day => reqState s id day
  | _, _ => none

/-- R151: a sale completes, with the change it gave. -/
def completeSale (given : Nat) (s : State) : State :=
  let c := s.sale.service.getD .any
  let serial := s.sale.serial.getD 0
  let r := lodgeForSale s
  let s := tellConsole (.issued serial given r.2 (outcomeState r.1 r.2 c)) r.1
  evalPanels (saleToRest s)

/-- R150: a sale in SETTLING leaves it with the change given and the change owed. -/
def settle (given owed : Nat) (s : State) : State :=
  let s := closeRecord (asSale given owed) { s with sale := { s.sale with payout := none } }
  let s := if 0 < owed then raiseNotice .changeShort (tellConsole (.changeShort owed) s) else s
  completeSale given s

/-- R150: the payment unit reports a payout done. -/
def payoutReported (value : Nat) (s : State) : State :=
  if s.sale.state = .settling then settle value (s.sale.planned - value) s else s

/-- R150: the payout timer expires. -/
def payoutExpires (s : State) : State :=
  if s.sale.payout.isSome ∧ s.sale.state = .settling then settle 0 s.sale.planned s else s

/-- R161 step 1: a coin's destination, and the tube counts after it. -/
def dropCoin (t : Tubes) (v : Nat) : CoinDest × Tubes :=
  if v = 10 ∧ t.c10 < 150 then (.tube 10, { t with c10 := t.c10 + 1 })
  else if v = 20 ∧ t.c20 < 120 then (.tube 20, { t with c20 := t.c20 + 1 })
  else if v = 50 ∧ t.c50 < 100 then (.tube 50, { t with c50 := t.c50 + 1 })
  else if v = 100 ∧ t.c100 < 80 then (.tube 100, { t with c100 := t.c100 + 1 })
  else (.cashBox, t)

/-- R161 step 1: the destinations of the escrowed coins in their order, and the tube counts after them. -/
def dropCoins : Tubes → List Nat → List CoinDest × Tubes
  | t, [] => ([], t)
  | t, v :: vs =>
    let r := dropCoin t v
    let q := dropCoins r.2 vs
    (r.1 :: q.1, q.2)

/-- R161: the payment unit is told to commit the sale. A sale with no coins in escrow has its plan cleared too (DESIGN CHOICE, log entry
39). -/
def commitSale (s : State) : State :=
  if s.sale.medium = some .coin ∧ s.pay.escrow ≠ [] then
    let r := dropCoins s.ret.tubes s.pay.escrow
    let s := evalTubes { s with ret := { s.ret with tubes := r.2 } }
    let s := send (.coin (.commit r.1)) { s with pay := { s.pay with escrow := [] } }
    match s.pay.plan with
    | some counts =>
      if 0 < s.sale.planned then
        send (.coin (.payout counts)) { s with pay := { s.pay with outstanding := some counts, plan := none } }
      else { s with pay := { s.pay with plan := none } }
    | none => s
  else { s with pay := { s.pay with plan := none } }

/-- R147: a DONE in ISSUING. -/
def printDone (s : State) : State :=
  if s.sale.state = .issuing then
    let s := commitSale (markPrinted { s with sale := { s.sale with print := none } })
    if s.sale.medium = some .coin ∧ 0 < s.sale.planned then
      { s with sale := { s.sale with state := .settling, payout := some 0 } }
    else completeSale 0 (closeRecord (asSale 0 0) s)
  else s

/-- R148: a print ends as failed, in the order of its steps. JOURNAL_L2, by a day close that the record's close settles, and PRINTER_FAULT
may both change in this event: R195 has SALES_OPEN evaluated once, after both. Each notice, with its ALERT, is raised when its flag
rises, and so before that evaluation (DESIGN CHOICE, log entry 12). -/
def printFailed (why : VoidReason) (s : State) : State :=
  let s := closeRecordWith id (asVoid why) { s with sale := { s.sale with print := none } }
  let s := evalSalesOpen (setPrinterFault (closePayment s))
  evalPanels (saleToRest (tellConsole (.closed .printFault) s))

/-- R148, R149: a FAULT from the printer. -/
def printerFaulted (s : State) : State :=
  if s.sale.state = .issuing then printFailed .printFault s else printerFaultRises s

/-- R148: the print timer expires. -/
def printExpires (s : State) : State :=
  if s.sale.print.isSome ∧ s.sale.state = .issuing then printFailed .printTimeout s else s

/-- R149: READY from the printer. -/
def printerReadies (s : State) : State :=
  if s.printerFault then evalSalesOpen { s with printerFault := false } else s

/-! ### Console messages (Table 8-5) -/

/-- R132: a WAKE or a choice begins a sale in IDLE when SALES_OPEN is present. -/
def beginSale (s : State) : State :=
  evalPanels { s with sale := { s.sale with state := .selecting, inactivity := some 0 } }

/-- R132, Table 8-5: a choice in any state; `take` is what it does in SELECTING and QUOTED. -/
def choice (take : State → State) (s : State) : State :=
  match s.sale.state with
  | .idle => if s.cond.salesOpen then take (beginSale s) else tellConsole (.closed .salesClosed) s
  | .selecting | .quoted => take (touch s)
  | .paying => tellConsole (.refused .busy) (touch s)
  | .issuing | .settling => tellConsole (.refused .busy) s

/-- R132, Table 8-5: WAKE. -/
def wakeUp (s : State) : State :=
  match s.sale.state with
  | .idle => if s.cond.salesOpen then beginSale s else tellConsole (.closed .salesClosed) s
  | .selecting | .quoted | .paying => touch s
  | .issuing | .settling => s

/-- R133: a DESTINATION in SELECTING or QUOTED. -/
def takeDestination (stop : Nat) (s : State) : State :=
  requestQuote (makeOffer stop { s with sale := { s.sale with dest := some stop, service := none, request := false } })

/-- R134: a SERVICE in SELECTING or QUOTED. -/
def takeService (id : Nat) (s : State) : State :=
  if id = 65535 then requestQuote { s with sale := { s.sale with service := some .any, request := false } }
  else
    match s.sale.offer.find? fun o => decide (o.1 = id) with
    | some o =>
      if isSellable s o.1 o.2 then requestQuote (keepRequest { s with sale := { s.sale with service := some (.train o.1 o.2) } })
      else tellConsole (.refused .noService) s
    | none => tellConsole (.refused .noService) s

/-- R135: a PRODUCT in SELECTING or QUOTED. -/
def takeProduct (p : Product) (s : State) : State := requestQuote { s with sale := { s.sale with product := some p } }

/-- R135: a PARTY in SELECTING or QUOTED. -/
def takeParty (n : Party) (s : State) : State :=
  if partyAllowed n then requestQuote { s with sale := { s.sale with party := some n } }
  else tellConsole (.refused .partyInvalid) s

/-- R137, Table 8-5: CONFIRM. -/
def takeConfirm (total : Nat) (s : State) : State :=
  match s.sale.state with
  | .idle => tellConsole (.refused .notQuoted) s
  | .selecting => tellConsole (.refused .notQuoted) (touch s)
  | .quoted =>
    match s.sale.quote with
    | some q => confirmQuoted total q (touch s)
    | none => tellConsole (.refused .notQuoted) (touch s)
  | .paying => tellConsole (.refused .busy) (touch s)
  | .issuing | .settling => tellConsole (.refused .busy) s

/-- R76: the first requestable entry of an id, in display order. -/
def firstRequestable (s : State) (id : Nat) : Option RunEntry :=
  ((displayOrder ((allEntries s).filter fun p => decide (p.2.svc.id = id) && requestable p.2)).head?).map (·.2)

/-- R152: the console is answered according to the outcome. -/
def answerStop (id day : Nat) (r : State × StopOutcome) : State :=
  match r.2 with
  | .lodged | .merged =>
    (match reqState r.1 id day with
     | some st => tellConsole (.stopTaken id st) r.1
     | none => r.1)
  | .listFull => tellConsole (.refused .listFull) r.1
  | .notRequestable | .none => tellConsole (.refused .notRequestable) r.1

/-- R76, R152: a console STOP REQUEST. -/
def takeStopRequest (id : Nat) (s : State) : State :=
  let s := touch s
  match firstRequestable s id with
  | some e => answerStop id e.day (lodge id e.day .button s)
  | none => tellConsole (.refused .notRequestable) s

/-! ### Meanings. A console message outside its range is ignored (R129). -/

/-- WAKE (R132). -/
def execWake (s : State) : Host.Outcome State Fault Refusal := whenPowered wakeUp s

/-- DESTINATION (R133). -/
def execDestination (stop : Nat) (s : State) : Host.Outcome State Fault Refusal :=
  whenPowered (fun s => if stop ≤ 255 then choice (takeDestination stop) s else s) s

/-- SERVICE (R134). -/
def execService (id : Nat) (s : State) : Host.Outcome State Fault Refusal :=
  whenPowered (fun s => if 1 ≤ id ∧ id ≤ 65535 then choice (takeService id) s else s) s

/-- PRODUCT (R135). -/
def execProduct (p : Product) (s : State) : Host.Outcome State Fault Refusal := whenPowered (choice (takeProduct p)) s

/-- PARTY (R135). -/
def execParty (na nc nq : Nat) (s : State) : Host.Outcome State Fault Refusal :=
  whenPowered (fun s => if na ≤ 15 ∧ nc ≤ 15 ∧ nq ≤ 15 then choice (takeParty ⟨na, nc, nq⟩) s else s) s

/-- CONFIRM (R137). -/
def execConfirm (total : Nat) (s : State) : Host.Outcome State Fault Refusal :=
  whenPowered (fun s => if total ≤ 99999 then takeConfirm total s else s) s

/-- CANCEL (R141). -/
def execCancel (s : State) : Host.Outcome State Fault Refusal := whenPowered (abandonOpen .cancelled) s

/-- INACTIVITY_EXPIRY (R140). -/
def execInactivityExpiry (s : State) : Host.Outcome State Fault Refusal := whenPowered inactivityExpires s

/-- STOP_REQUEST (R152). -/
def execStopRequest (id : Nat) (s : State) : Host.Outcome State Fault Refusal :=
  whenPowered (fun s => if 1 ≤ id ∧ id ≤ 65535 then takeStopRequest id s else s) s

/-- DONE (R147). -/
def execDone (s : State) : Host.Outcome State Fault Refusal := whenPowered printDone s

/-- FAULT (R148, R149). -/
def execFault (s : State) : Host.Outcome State Fault Refusal := whenPowered printerFaulted s

/-- PRINT_TIMER_EXPIRY (R148). -/
def execPrintTimerExpiry (s : State) : Host.Outcome State Fault Refusal := whenPowered printExpires s

/-- PRINTER_READY (R149). -/
def execPrinterReady (s : State) : Host.Outcome State Fault Refusal := whenPowered printerReadies s

/-- PAYOUT_TIMER_EXPIRY (R150). -/
def execPayoutTimerExpiry (s : State) : Host.Outcome State Fault Refusal := whenPowered payoutExpires s

end Sys2Proof.Machine
end

