-- ==== Sys2Proof/Machine/Payment.lean ====
section
/-! DEFINITION. The payment unit (chapter 9): coins, the change plan, payouts and tubes, card checks, the deny list. -/

namespace Sys2Proof.Machine

/-! ### The change plan (R158) -/

/-- R158: the greedy plan for an amount, over the tubes in the order 100, 50, 20, 10. -/
def greedyPlan (t : Tubes) (c : Nat) : Option Tubes :=
  let n100 := min (c / 100) t.c100
  let c := c - 100 * n100
  let n50 := min (c / 50) t.c50
  let c := c - 50 * n50
  let n20 := min (c / 20) t.c20
  let c := c - 20 * n20
  let n10 := min (c / 10) t.c10
  if c - 10 * n10 = 0 then some ⟨n10, n20, n50, n100⟩ else none

/-- R158: the change plan for an amount. -/
def changePlan (s : State) (c : Nat) : Option Tubes :=
  if s.pay.outstanding.isSome ∨ 190 < c then none else greedyPlan s.ret.tubes c

/-! ### A coin at the gate (R157, R159) -/

/-- R156: the coins that can be taken. -/
def coinValue (v : Nat) : Bool := decide (v ∈ [10, 20, 50, 100, 200])

/-- R157: the coin is taken. -/
def coinAcceptable (s : State) (v : Nat) : Bool :=
  coinValue v && decide (s.sale.state = .paying) && s.pay.coinAvail && decide (s.pay.escrow.length < Config.escrowCap)
    && decide (s.sale.paid < saleTotal s)
    && (decide (s.sale.paid + v ≤ saleTotal s) || (changePlan s (s.sale.paid + v - saleTotal s)).isSome)

/-- R159 step 3: the change plan that is recorded. -/
def recordedPlan (s : State) (planned : Nat) : Option Tubes :=
  if planned = 0 then some ⟨0, 0, 0, 0⟩ else changePlan s planned

/-- R157, R159: an OFFER from the coin module. Where the 16th coin leaves paid below the total, PAY PROGRESS is sent before the ACCEPT(off)
that the full escrow brings (R156), which the rules leave open (DESIGN CHOICE, log entry 45). -/
def coinOffered (v : Nat) (s : State) : State :=
  if coinAcceptable s v then
    let t := send (.coin .take) { s with pay := { s.pay with escrow := s.pay.escrow ++ [v] } }
    let t := { t with sale := { t.sale with paid := escrowValue t } }
    if t.sale.paid < saleTotal t then touch (evalAccept (payProgress t))
    else
      let planned := t.sale.paid - saleTotal t
      paymentComplete t.sale.paid .coin none planned { t with pay := { t.pay with plan := recordedPlan s planned } }
  else
    let t := send (.coin .refuse) s
    if s.sale.state = .paying then touch (payProgress t) else t

/-! ### A card (R166) -/

/-- R166: the tally total and count of a token, 0 where it has no entry. -/
def tallyOf (s : State) (token : Nat) : Nat × Nat :=
  match s.pay.tally.find? fun e => decide (e.token = token) with
  | some e => (e.total, e.count)
  | none => (0, 0)

/-- R166, Table 9-4: the first test that fails. -/
def cardDecline (s : State) (token : Nat) : Option Decline :=
  if s.sale.state ≠ .paying then some .noSale
  else if s.pay.escrow ≠ [] then some .coinsIn
  else if s.pay.cardAvail = false then some .unavailable
  else if token ∈ s.pay.deny then some .denied
  else if s.settings.cardFloor < saleTotal s then some .overFloor
  else if s.settings.cardDaily < (tallyOf s token).1 + saleTotal s then some .overDailyLimit
  else if s.settings.cardCount < (tallyOf s token).2 + 1 then some .overDailyCount
  else none

/-- R166: a TOKEN from the card module. -/
def cardPresented (token : Nat) (s : State) : State :=
  match cardDecline s token with
  | some why =>
    let t := send (.card (.result (some why))) s
    if s.sale.state = .paying then touch (tellConsole (.refused (.card why)) t) else t
  | none => paymentComplete (saleTotal s) .card (some token) 0 (send (.card (.result none)) s)

/-! ### Payouts and tubes (R162 to R164) -/

/-- R162: the value of a count of coins of each tube. -/
def tubesValue (t : Tubes) : Nat := 10 * t.c10 + 20 * t.c20 + 50 * t.c50 + 100 * t.c100

/-- R162: counts held at or below those of the outstanding payout. -/
def heldCounts (a b : Tubes) : Tubes := ⟨min a.c10 b.c10, min a.c20 b.c20, min a.c50 b.c50, min a.c100 b.c100⟩

/-- R162: the tube counts less the coins paid out; a count stays at 0. -/
def lessCoins (a b : Tubes) : Tubes := ⟨a.c10 - b.c10, a.c20 - b.c20, a.c50 - b.c50, a.c100 - b.c100⟩

/-- R162: a PAYOUT DONE. The rule gives its works no order: the tubes fall first, and TUBE_LOW, with the ALERT it may cause, is raised
before the sale controller is told, and so before CHANGE_SHORT and the close of the record (DESIGN CHOICE, log entry 12). -/
def payoutAnswered (counts : Tubes) (s : State) : State :=
  match s.pay.outstanding with
  | none => s
  | some o =>
    let held := heldCounts counts o
    let s := evalTubes { s with ret := { s.ret with tubes := lessCoins s.ret.tubes held } }
    payoutReported (tubesValue held) { s with pay := { s.pay with outstanding := none } }

/-- R164: the greatest counts the tubes hold (Table 9-2). -/
def tubeCaps : Tubes := ⟨150, 120, 100, 80⟩

/-- R164: the tubes are set to four counts, each held at or below its capacity. -/
def setTubes (counts : Tubes) (s : State) : State × Answer :=
  let held := heldCounts counts tubeCaps
  (evalTubes { s with ret := { s.ret with tubes := held }, pay := { s.pay with outstanding := none } },
    if held = counts then .accepted else .clamped)

/-- R164, R32: a consumed TUBE SET. -/
def takeTubeSet (to_ : Dest) (body : List Byte) (s : State) : State :=
  match body with
  | [a1, a0, b1, b0, c1, c0, d1, d0] =>
    let r := setTubes ⟨beNat [a1, a0], beNat [b1, b0], beNat [c1, c0], beNat [d1, d0]⟩ s
    answer to_ 0x0E r.2 noRef r.1
  | _ => answer to_ 0x0E (.refused .field) noRef s

/-! ### Module readiness (R155, R162, R165) -/

/-- R155: READY from the coin module. -/
def coinReadies (s : State) : State := evalAvail { s with pay := { s.pay with coinReady := true } }

/-- R155, R162: NOT_READY from the coin module, which also ends the outstanding payout (log entry 18). -/
def coinStops (s : State) : State := evalAvail { s with pay := { s.pay with coinReady := false, outstanding := none } }

/-- R165: READY from the card module. -/
def cardReadies (s : State) : State := evalAvail { s with pay := { s.pay with cardReady := true } }

/-- R165: NOT_READY from the card module. -/
def cardStops (s : State) : State := evalAvail { s with pay := { s.pay with cardReady := false } }

/-! ### The deny list (R167 to R169) -/

/-- R167: a token joins the list at its place in ascending order, once. -/
def insertToken (t : Nat) : List Nat → List Nat
  | [] => [t]
  | u :: us => if t < u then t :: u :: us else if t = u then u :: us else u :: insertToken t us

/-- R167, R168: tokens joining a list. -/
def insertTokens (ts : List Nat) (l : List Nat) : List Nat := ts.foldr insertToken l

/-- R168: a DENY ADD of some tokens: all its new tokens join, or none where there is no room. -/
def addTokens (ts : List Nat) (s : State) : State × Answer :=
  let l := insertTokens ts s.pay.deny
  if l.length ≤ Config.denyCap then ({ s with pay := { s.pay with deny := l } }, .accepted) else (s, .full)

/-- R168, R32: a consumed DENY ADD. -/
def takeDenyAdd (to_ : Dest) (body : List Byte) (s : State) : State :=
  match body with
  | n :: rest =>
    if 1 ≤ n.toNat ∧ n.toNat ≤ 24 then
      (match readTokens n.toNat rest with
       | some ts =>
         let r := addTokens ts s
         answer to_ 0x0F r.2 noRef r.1
       | none => answer to_ 0x0F (.refused .field) noRef s)
    else answer to_ 0x0F (.refused .field) noRef s
  | [] => answer to_ 0x0F (.refused .field) noRef s

/-- R169: the age of the deny list takes a value, and DENY_OLD is evaluated. -/
def setDenyAge (n : Nat) (s : State) : State := evalDenyOld { s with pay := { s.pay with denyAge := n } }

/-- R169, R32: a consumed DENY CONFIRM. -/
def takeDenyConfirm (body : List Byte) (s : State) : State :=
  match body with
  | [n1, n0] => if beNat [n1, n0] = s.pay.deny.length then setDenyAge 0 s else s
  | _ => s

/-- R167: a DENY load is validated and committed. -/
def commitDeny (tokens : List Nat) (s : State) : State × Answer :=
  let l := insertTokens tokens []
  if Config.denyCap < l.length then (s, .refused .capacity)
  else (setDenyAge 0 { s with pay := { s.pay with deny := l } }, .committed)

/-! ### Clock and restart -/

/-- R169: the work of the payment unit on a minute tick. -/
def denyTick (s : State) : State := setDenyAge (min (s.pay.denyAge + 1) 65535) s

/-- R170: the tally is emptied at a day end. -/
def tallyClear (s : State) : State := { s with pay := { s.pay with tally := [] } }

/-- R172: the payment unit at a line restart. -/
def paymentRestart (s : State) : State :=
  let s := send (.coin .ret) { s with pay := { s.pay with escrow := [], plan := none } }
  let s := send (.coin (.accept false)) { s with pay := { s.pay with accept := false } }
  let s := send (.card .disarm) { s with pay := { s.pay with armed := false } }
  tallyClear s

/-! ### Meanings -/

/-- OFFER (R157). A value outside Table 9-1 is ignored (R155). -/
def execOffer (value : Nat) (s : State) : Host.Outcome State Fault Refusal :=
  whenPowered (fun s => if value ≤ 65535 then coinOffered value s else s) s

/-- TOKEN (R166). A token is a 64-bit number (R165). -/
def execToken (token : Nat) (s : State) : Host.Outcome State Fault Refusal :=
  whenPowered (fun s => if token < 2 ^ 64 then cardPresented token s else s) s

/-- PAYOUT_DONE (R162). Counts outside Table 9-1 are ignored (R155). -/
def execPayoutDone (c10 c20 c50 c100 : Nat) (s : State) : Host.Outcome State Fault Refusal :=
  whenPowered (fun s =>
    if c10 ≤ 255 ∧ c20 ≤ 255 ∧ c50 ≤ 255 ∧ c100 ≤ 255 then payoutAnswered ⟨c10, c20, c50, c100⟩ s else s) s

/-- COIN_READY (R155). -/
def execCoinReady (s : State) : Host.Outcome State Fault Refusal := whenPowered coinReadies s

/-- COIN_NOT_READY (R155, R162). -/
def execCoinNotReady (s : State) : Host.Outcome State Fault Refusal := whenPowered coinStops s

/-- CARD_READY (R165). -/
def execCardReady (s : State) : Host.Outcome State Fault Refusal := whenPowered cardReadies s

/-- CARD_NOT_READY (R165). -/
def execCardNotReady (s : State) : Host.Outcome State Fault Refusal := whenPowered cardStops s

/-- TUBE_SET (R164). -/
def execTubeSet (to_ : Dest) (body : List Byte) (s : State) : Host.Outcome State Fault Refusal :=
  whenPowered (takeTubeSet to_ body) s

/-- DENY_ADD (R168). -/
def execDenyAdd (to_ : Dest) (body : List Byte) (s : State) : Host.Outcome State Fault Refusal :=
  whenPowered (takeDenyAdd to_ body) s

/-- DENY_CONFIRM (R169). -/
def execDenyConfirm (_to : Dest) (body : List Byte) (s : State) : Host.Outcome State Fault Refusal :=
  whenPowered (takeDenyConfirm body) s

end Sys2Proof.Machine
end

