-- ==== Sys2Proof/Machine/Timetable.lean ====
section
/-! DEFINITION. The timetable unit (chapter 4): banks and their loads, running notes, ageing and lapse, day end, restart. -/

namespace Sys2Proof.Machine

/-! ### Validation of a TIMETABLE load (R60) -/

/-- R60 check 2: a service record with every field in its range. Bits 2 to 7 of the options byte, which Table 12-4 does not number, are
not read (DESIGN CHOICE, log entry 21). -/
def serviceOf (r : RawService) : Option Service :=
  match trainDirOfByte r.dir with
  | none => none
  | some d =>
    if 1 ≤ r.id ∧ r.id ≤ 65534 ∧ 1 ≤ r.platform ∧ r.platform ≤ 4 ∧ r.dep ≤ 1439
        ∧ (r.arrival = 65535 ∨ (r.arrival ≤ 1439 ∧ r.arrival ≤ r.dep)) ∧ r.calls.length ≤ 12
        ∧ (r.calls.all fun c => decide (c.1 ≤ 63 ∧ 1 ≤ c.2 ∧ c.2 ≤ 255)) = true then
      some { id := r.id, dir := d, platform := r.platform, arrival := if r.arrival = 65535 then none else some r.arrival
             dep := r.dep, days := r.runsOn.setWidth 7, holiday := r.runsOn.getLsbD 7, request := r.options.getLsbD 0
             sellable := r.options.getLsbD 1, calls := r.calls }
    else none

/-- R58: a service at its place in the order of departure, then id. -/
def insertService (v : Service) : List Service → List Service
  | [] => [v]
  | w :: ws => if w.dep < v.dep ∨ (w.dep = v.dep ∧ w.id < v.id) then w :: insertService v ws else v :: w :: ws

/-- R58: services sorted by departure, then id. -/
def sortServices (l : List Service) : List Service := l.foldr insertService []

/-- R58: a day range covers a day. -/
def covers (b : Bank) (day : Nat) : Bool := decide (b.fromDay ≤ day ∧ day ≤ b.toDay)

/-- R60: the validation of a TIMETABLE load. -/
def validateTimetable (s : State) (version : Nat) (r : LoadRange) (rs : List RawService) : Except Reason Bank :=
  if 160 < rs.length then .error .capacity
  else
    match allSome (rs.map serviceOf) with
    | none => .error .field
    | some vs =>
      if 1200 < (vs.map fun v => v.calls.length).sum then .error .capacity
      else if ¬ (vs.map Service.id).Nodup then .error .field
      else
        let b : Bank := ⟨version, r.fromDay, r.toDay, sortServices vs⟩
        if r.target = .today ∧ (s.clock.valid = false ∨ covers b s.clock.day = false) then .error .notCurrent else .ok b

/-! ### The running table (R62) -/

/-- R62: a service runs today. -/
def runsToday (s : State) (v : Service) : Bool :=
  if ctrlSet s bitHoliday then v.holiday else v.days.getLsbD s.clock.weekday

/-- R62: an entry built fresh. -/
def freshEntry (day : Nat) (v : Service) : RunEntry :=
  { svc := v, day := day, state := .planned, delay := 0, platform := v.platform, stopOrdered := false, noteAge := 0
    last := none }

/-- R62: the running table built fresh from the running bank, for the current day. -/
def builtEntries (s : State) : List RunEntry :=
  match s.tt.running with
  | none => []
  | some b => (b.services.filter (runsToday s)).map (freshEntry s.clock.day)

/-- R71: the lapse condition at minute `m`. -/
def lapses (s : State) (held : Bool) (m : Nat) (e : RunEntry) : Bool :=
  liveState e.state && decide (expectedOf held e + s.settings.lapseWindow ≤ m)

/-- R71: an entry that meets the condition becomes LAPSED. -/
def lapseEntry (s : State) (held : Bool) (m : Nat) (e : RunEntry) : RunEntry :=
  if lapses s held m e then { e with state := .lapsed, last := none } else e

/-- The service and day an entry stands for. -/
def entryKey (e : RunEntry) : Nat × Nat := (e.svc.id, e.day)

/-! ### Commits (R61, R63) -/

/-- R63: the entry of a service of the new bank: kept by id, or built fresh. -/
def rebuiltEntry (old : List RunEntry) (day : Nat) (v : Service) : RunEntry :=
  match old.find? fun e => decide (e.svc.id = v.id) with
  | some e => { e with svc := v }
  | none => freshEntry day v

/-- R63: the commit of a TODAY load. A sale in progress keeps request stop of its train from the new record (log entry 17). -/
def commitToday (b : Bank) (s : State) : State :=
  let old := s.tt.entries
  let new := (b.services.filter (runsToday s)).map (rebuiltEntry old s.clock.day)
  let lapsed := new.filter (lapses s false s.clock.minute)
  let removed := old.filter fun e => !(new.any fun n => decide (n.svc.id = e.svc.id))
  let t := keepRequest
    { s with tt := { s.tt with running := some b, entries := new.map (lapseEntry s false s.clock.minute) } }
  let t := removeReqs (lapsed.map entryKey ++ removed.map entryKey) t
  let t := markTrains { t with tt := { t.tt with expired := false } }
  tellAllCeased ((old.filter fun e => entrySellable e && !isSellable t e.svc.id e.day).map entryKey) t

/-- R61: the commit of a NEXT load. -/
def commitNext (b : Bank) (s : State) : State := markTrains { s with tt := { s.tt with standing := some b } }

/-- R60, R61, R63: a TIMETABLE load is validated and committed. -/
def commitTimetable (version : Nat) (r : LoadRange) (rs : List RawService) (s : State) : State × Answer :=
  match validateTimetable s version r rs with
  | .error why => (s, .refused why)
  | .ok b =>
    match r.target with
    | .today => (commitToday b s, .committed)
    | .next => (commitNext b s, .committed)

/-! ### Running notes (R65 to R69) -/

/-- R66, R67: the content of a note, its delay and platform brought into range. -/
def contentOf (k : NoteKind) (n : RawNote) : NoteContent :=
  { kind := k, delay := max (-15) (min 240 n.delay), platform := if 4 < n.platform then 0 else n.platform
    stopOrdered := n.stopOrdered }

/-- R68: the DELAY row of Table 4-3 for LAPSED: the new expected departure lies within the lapse window. -/
def revives (s : State) (held : Bool) (e : RunEntry) (c : NoteContent) : Bool :=
  decide (s.clock.minute < expectedOf held { e with delay := c.delay } + s.settings.lapseWindow)

/-- R68, Table 4-3: the state and delay a note gives an entry; `none` where the table says ignored. -/
def noteEffect (s : State) (held : Bool) (e : RunEntry) (c : NoteContent) : Option (RunState × Int) :=
  match e.state with
  | .planned | .running | .stale =>
    (match c.kind with
     | .delay => some (.running, c.delay)
     | .approach => some (.arriving, e.delay)
     | .departed => some (.departed, e.delay)
     | .cancel => some (.cancelled, e.delay)
     | .reinstate => none
     | .platform => some (e.state, e.delay))
  | .arriving =>
    (match c.kind with
     | .delay => some (.arriving, c.delay)
     | .approach => some (.arriving, e.delay)
     | .departed => some (.departed, e.delay)
     | .cancel => some (.cancelled, e.delay)
     | .reinstate => none
     | .platform => some (.arriving, e.delay))
  | .lapsed =>
    (match c.kind with
     | .delay => if revives s held e c then some (.running, c.delay) else none
     | .approach => some (.arriving, e.delay)
     | .departed => some (.departed, e.delay)
     | .cancel => some (.cancelled, e.delay)
     | .reinstate => none
     | .platform => none)
  | .cancelled =>
    (match c.kind with
     | .reinstate => some (.planned, 0)
     | .delay | .approach | .departed | .cancel | .platform => none)
  | .departed => none

/-- R69: the entry after an applied note. -/
def notedEntry (e : RunEntry) (c : NoteContent) (st : RunState) (delay : Int) : RunEntry :=
  { e with state := st, delay := delay, platform := if c.platform = 0 then e.platform else c.platform
           stopOrdered := c.stopOrdered, noteAge := 0, last := some c }

/-- An entry of a list replaced by service id. -/
def putById (e : RunEntry) (l : List RunEntry) : List RunEntry :=
  l.map fun x => if x.svc.id = e.svc.id then e else x

/-- An entry of the holdover list or of the running table replaced. -/
def putEntry (held : Bool) (e : RunEntry) (s : State) : State :=
  if held then { s with tt := { s.tt with holdover := putById e s.tt.holdover } }
  else { s with tt := { s.tt with entries := putById e s.tt.entries } }

/-- R69, R77, R78, R81: what follows an applied note. R69 gives the confirming and the removal no order: an applied DEPARTED or CANCEL
note with stop ordered yes confirms a LODGED request first and removes it as ORDERED, so no STOP_UNCONFIRMED is raised (DESIGN
CHOICE, log entry 41). -/
def afterNote (old new : RunEntry) (s : State) : State :=
  let id := new.svc.id
  let s := if new.stopOrdered then confirmStop id new.day s else s
  let s := if new.state = .departed ∨ new.state = .cancelled then removeReq id new.day s else s
  let s := tellComposer id new.day s
  if entrySellable old && !entrySellable new then tellCeased id new.day s else s

/-- R67, R68: a note that has found its entry. -/
def noteFound (held : Bool) (e : RunEntry) (c : NoteContent) (s : State) : State :=
  match noteEffect s held e c with
  | none => s
  | some (st, delay) =>
    if e.last = some c then putEntry held { e with noteAge := 0 } s
    else afterNote e (notedEntry e c st delay) (putEntry held (notedEntry e c st delay) s)

/-- R65: a note that is not applied is counted. -/
def noteUnknown (s : State) : State := { s with tt := { s.tt with unknownNotes := bump s.tt.unknownNotes } }

/-- R65: the previous day. -/
def previousDay (d : Nat) : Nat := if d = 0 then 65535 else d - 1

/-- R65: the entry a note addresses: by the current day in the running table, by the previous day in the holdover list. -/
def noteEntry (s : State) (n : RawNote) : Option (Bool × RunEntry) :=
  if s.clock.valid = false then none
  else if n.day = s.clock.day then
    (s.tt.entries.find? fun e => decide (e.svc.id = n.id)).map (false, ·)
  else if n.day = previousDay s.clock.day then
    (s.tt.holdover.find? fun e => decide (e.svc.id = n.id)).map (true, ·)
  else none

/-- R65: one note. -/
def takeNote (n : RawNote) (s : State) : State :=
  match noteEntry s n, noteKindOfByte n.kind with
  | some (held, e), some k => noteFound held e (contentOf k n) s
  | _, _ => noteUnknown s

/-- R65, R32, R205: a consumed RUNNING UPDATE. -/
def takeRunningUpdate (body : List Byte) (s : State) : State :=
  match body with
  | [] => s
  | n :: rest =>
    if n.toNat ≤ 22 then
      (match readNotes n.toNat rest with
       | some ns => ns.foldl (fun s n => takeNote n s) s
       | none => s)
    else s

/-! ### Ageing and lapse on a minute tick (R70, R71) -/

/-- R70: an entry aged by one minute. -/
def ageEntry (s : State) (e : RunEntry) : RunEntry :=
  let age := min (e.noteAge + 1) 255
  if e.state = .running ∧ s.settings.staleWindow ≤ age then { e with noteAge := age, state := .stale, last := none }
  else { e with noteAge := age }

/-- R70, R71: an entry after the tick at minute `m`. -/
def tickEntry (s : State) (held : Bool) (m : Nat) (e : RunEntry) : RunEntry := lapseEntry s held m (ageEntry s e)

/-- The entries of a list whose state the tick changes, as they stood before. -/
def tickChanged (s : State) (held : Bool) (m : Nat) (l : List RunEntry) : List RunEntry :=
  l.filter fun e => decide ((tickEntry s held m e).state ≠ e.state)

/-- R70, R71, R81: the timetable unit's work on a minute tick. Where several services lapse, their requests are all removed first, then the
composer is told of each change, and the sale of the services last; the rules give these no order (DESIGN CHOICE, log entry 15). -/
def timetableTick (s : State) : State :=
  let m := s.clock.minute
  let changed := tickChanged s true m s.tt.holdover ++ tickChanged s false m s.tt.entries
  let lapsed := (tickChanged s true m s.tt.holdover).filter (fun e => decide ((tickEntry s true m e).state = .lapsed))
    ++ (tickChanged s false m s.tt.entries).filter (fun e => decide ((tickEntry s false m e).state = .lapsed))
  let t := { s with tt := { s.tt with
    holdover := s.tt.holdover.map (tickEntry s true m), entries := s.tt.entries.map (tickEntry s false m) } }
  let t := removeReqs (lapsed.map entryKey) t
  let t := changed.foldl (fun t e => tellComposer e.svc.id e.day t) t
  tellAllCeased ((lapsed.filter entrySellable).map entryKey) t

/-! ### Day end (R72 to R74) -/

/-- R40: the day after a day. -/
def nextDay (d : Nat) : Nat := if d = 65535 then 0 else d + 1

/-- R72 steps 2 and 3: the entries held over when day `old` ends. -/
def heldOver (old : Nat) (s : State) : List RunEntry :=
  if s.clock.day = nextDay old then
    ((displayOrder ((s.tt.entries.filter fun e => liveState e.state && decide (1440 ≤ expectedOf false e)).map
      (false, ·))).take Config.holdoverCap).map (·.2)
  else []

/-- R72: the old day's entries are settled. Within one of its steps the services have no order: the requests of several are removed in
list order, the discarded holdover entries before the running ones, and then the sale is told of each in the same order (DESIGN
CHOICE, log entry 15). -/
def settleOldDay (old : Nat) (s : State) : State :=
  let gone := s.tt.holdover
  let held := heldOver old s
  let rest := s.tt.entries.filter fun e => liveState e.state && !(held.any fun h => decide (h.svc.id = e.svc.id))
  let t := removeReqs (gone.map entryKey) { s with tt := { s.tt with holdover := [] } }
  let t := removeReqs (rest.map entryKey) { t with tt := { t.tt with holdover := held, entries := [] } }
  tellAllCeased (((gone ++ rest).filter entrySellable).map entryKey) t

/-- R73 step 2: a standing bank that lies behind the new day is emptied. -/
def dropPastStanding (s : State) : State :=
  match s.tt.standing with
  | some b => if b.toDay < s.clock.day then { s with tt := { s.tt with standing := none } } else s
  | none => s

/-- R73: whether a bank covers a day; an empty bank covers none. -/
def bankCovers (b : Option Bank) (day : Nat) : Bool :=
  match b with
  | some b => covers b day
  | none => false

/-- R73: the bank for the new day is chosen. -/
def chooseBank (s : State) : State :=
  if bankCovers s.tt.standing s.clock.day then
    { s with tt := { s.tt with running := s.tt.standing, standing := none, expired := false } }
  else
    let s := dropPastStanding s
    if bankCovers s.tt.running s.clock.day then s
    else
      raiseIf (!s.tt.expired) .timetableExpired { s with tt := { s.tt with running := none, expired := true } }

/-- R74: the running table is built for the new day. -/
def buildRunning (s : State) : State := markTrains { s with tt := { s.tt with entries := builtEntries s } }

/-- R72 to R74: the timetable unit's day-end work, when day `old` has ended and the clock holds the new day. -/
def timetableDayEnd (old : Nat) (s : State) : State := buildRunning (chooseBank (settleOldDay old s))

/-! ### Line restart (R83) -/

/-- R83: the timetable unit at a line restart. -/
def timetableRestart (s : State) : State :=
  let t := { s with tt := { s.tt with
    holdover := [], stopReqs := []
    entries := if s.clock.valid then (builtEntries s).map (lapseEntry s false s.clock.minute) else [] } }
  markTrains t

/-! ### Meaning -/

/-- RUNNING_UPDATE (R65). -/
def execRunningUpdate (_to : Dest) (body : List Byte) (s : State) : Host.Outcome State Fault Refusal :=
  whenPowered (takeRunningUpdate body) s

end Sys2Proof.Machine
end

