-- ==== Sys2Proof/Machine/Timers.lean ====
section
/-! DEFINITION. The timers that are compared with a setting or a fixed time (R17, R26, R111, R140, R148, R150, R185, R200): what
follows when the time measured has reached the limit. A change of a setting and the passing of time make the same comparison. -/

namespace Sys2Proof.Machine

/-- A running timer has reached a limit. -/
def reached (t : Timer) (limit : Nat) : Bool :=
  match t with
  | some n => decide (limit ≤ n)
  | none => false

/-- R17: the link-silence timer is compared with its setting, in minutes. -/
def linkDue (s : State) : State := if reached s.line.linkTimer (s.settings.linkSilence * 60) then linkExpires s else s

/-- R185: the journal ack timer is compared with its setting. -/
def ackDue (s : State) : State := if reached s.jrn.ackTimer s.settings.ackWindow then ackExpires s else s

/-- R140: the console inactivity timer is compared with its setting. -/
def inactivityDue (s : State) : State :=
  if reached s.sale.inactivity s.settings.inactivity then inactivityExpires s else s

/-- R148: the print timer is compared with its 20 seconds. -/
def printDue (s : State) : State := if reached s.sale.print Config.printPeriod then printExpires s else s

/-- R150: the payout timer is compared with its 15 seconds. -/
def payoutDue (s : State) : State := if reached s.sale.payout Config.payoutPeriod then payoutExpires s else s

/-- R111: the ping timer of a panel is compared with its 10 seconds. -/
def pingDueAt (p : Nat) (s : State) : State :=
  match panelRec s p with
  | some r => if reached r.pingTimer Config.pingPeriod then pingExpires p s else s
  | none => s

/-- R200: a PERIODIC report is asked for, and the count returns to 0. -/
def reportExpires (s : State) : State :=
  match s.cond.reportTimer with
  | some _ => report .periodic { s with cond := { s.cond with reportTimer := some 0 } }
  | none => s

/-- R200: the count of the report timer is compared with its setting. -/
def reportDue (s : State) : State := if reached s.cond.reportTimer s.settings.reportEvery then reportExpires s else s

/-- R200: the condition unit's work on a minute tick. -/
def reportTick (s : State) : State :=
  match s.cond.reportTimer with
  | some n => reportDue { s with cond := { s.cond with reportTimer := some (n + 1) } }
  | none => s

end Sys2Proof.Machine
end

