-- ==== Sys2Proof/Machine/Condition.lean ====
section
/-! DEFINITION. The frames of the condition unit (chapter 11): FLAGS, NOTICE CLEAR, NOTICE MASK, FAULT CLEAR, STATUS POLL, and the report
timer. -/

namespace Sys2Proof.Machine

/-! ### Operations (Table 12-3) -/

/-- Table 12-3: the operation of a FLAGS or NOTICE MASK frame. -/
inductive FlagOp where
  | set | clear
  deriving DecidableEq, Repr

/-- Table 12-3: an operation byte. -/
def opOfByte (b : Byte) : Option FlagOp :=
  match b.toNat with
  | 1 => some .set
  | 2 => some .clear
  | _ => none

/-- R193, R196: named marks made set, or made clear; the others are left as they are. -/
def applyOp {w : Nat} (op : FlagOp) (named marks : BitVec w) : BitVec w :=
  match op with
  | .set => marks ||| named
  | .clear => marks &&& ~~~named

/-! ### FLAGS (R193) -/

/-- R193, R205: the control flags a flag set names; condition flags and unassigned bits are ignored. -/
def namedControl (set : List Byte) : BitVec 13 := BitVec.ofNat 13 (beNat set)

/-- R193, R32: a consumed FLAGS. -/
def takeFlags (body : List Byte) (s : State) : State :=
  match body with
  | [op, f3, f2, f1, f0] =>
    (match opOfByte op with
     | some o => setCtrl (applyOp o (namedControl [f3, f2, f1, f0]) s.cond.ctrl) s
     | none => s)
  | _ => s

/-! ### Notices (R196, R197) -/

/-- R204: a notice set of two bytes. -/
def namedNotices (set : List Byte) : BitVec 16 := BitVec.ofNat 16 (beNat set)

/-- R196, R32: a consumed NOTICE CLEAR. -/
def takeNoticeClear (body : List Byte) (s : State) : State :=
  match body with
  | [n1, n0] => { s with cond := { s.cond with pending := applyOp .clear (namedNotices [n1, n0]) s.cond.pending } }
  | _ => s

/-- R196, R197, R32: a consumed NOTICE MASK; an ALERT follows where it unmasks the first pending notice. -/
def takeNoticeMask (body : List Byte) (s : State) : State :=
  match body with
  | [op, n1, n0] =>
    (match opOfByte op with
     | some o =>
       alertAfter s { s with cond := { s.cond with masks := applyOp o (namedNotices [n1, n0]) s.cond.masks } }
     | none => s)
  | _ => s

/-! ### Fault capture (R202) -/

/-- R202: the fault capture record is emptied. -/
def clearFault (s : State) : State := { s with cond := { s.cond with faultRec := none } }

/-- R202, R32: a consumed FAULT CLEAR. -/
def takeFaultClear (body : List Byte) (s : State) : State :=
  match body with
  | [] => clearFault s
  | _ :: _ => s

/-! ### STATUS POLL (R16, R20, R199) -/

/-- R20, R199: the clear-counters option. -/
def clearCounters (s : State) : State :=
  { s with line := { s.line with checkErrors := 0, transitDrops := 0, ownDrops := 0 }, tt := { s.tt with unknownNotes := 0 } }

/-- R199: the POLL report of a poll addressed to this halt. -/
def pollReport (to_ : Dest) (s : State) : State :=
  match to_ with
  | .own => report .poll s
  | .all => s

/-- R199, R32: a consumed STATUS POLL: the report first, then the option. -/
def takeStatusPoll (to_ : Dest) (body : List Byte) (s : State) : State :=
  match body with
  | [options] => if options.getLsbD 0 then clearCounters (pollReport to_ s) else pollReport to_ s
  | _ => answer to_ 0x0D (.refused .field) noRef s

/-! ### Line restart (R196, R200) -/

/-- R196, R200: every pending notice becomes not pending and the report timer stops; flags, masks and the fault capture record
are kept (R192, R202). -/
def conditionRestart (s : State) : State := { s with cond := { s.cond with pending := 0, reportTimer := none } }

/-! ### Meanings -/

/-- FLAGS (R193). -/
def execFlags (_to : Dest) (body : List Byte) (s : State) : Host.Outcome State Fault Refusal :=
  whenPowered (takeFlags body) s

/-- NOTICE_CLEAR (R196). -/
def execNoticeClear (_to : Dest) (body : List Byte) (s : State) : Host.Outcome State Fault Refusal :=
  whenPowered (takeNoticeClear body) s

/-- NOTICE_MASK (R196, R197). -/
def execNoticeMask (_to : Dest) (body : List Byte) (s : State) : Host.Outcome State Fault Refusal :=
  whenPowered (takeNoticeMask body) s

/-- FAULT_CLEAR (R202). -/
def execFaultClear (_to : Dest) (body : List Byte) (s : State) : Host.Outcome State Fault Refusal :=
  whenPowered (takeFaultClear body) s

/-- STATUS_POLL (R199). -/
def execStatusPoll (to_ : Dest) (body : List Byte) (s : State) : Host.Outcome State Fault Refusal :=
  whenPowered (takeStatusPoll to_ body) s

/-- REPORT_TIMER_EXPIRY (R200). -/
def execReportTimerExpiry (s : State) : Host.Outcome State Fault Refusal := whenPowered reportExpires s

end Sys2Proof.Machine
end

