-- ==== Sys2Proof/Machine/Clock.lean ====
section
/-! DEFINITION. The clock and cadence unit (chapter 3): the minute tick and the day end as events, CLOCK SET, the cadence table and its
run. -/

namespace Sys2Proof.Machine

/-! ### Validation and commit of a CADENCE load (R49) -/

/-- R49, R206: the condition of an entry; `none` of the outer option where R49 refuses. Flag byte FFh is no condition, and its
sense byte is then not examined (log entry 32). -/
def conditionOf (flag sense : Byte) : Option (Option (Nat × Bool)) :=
  if flag = 0xFF then some none
  else
    match bitOfByte sense with
    | some b => if flagAssigned flag.toNat then some (some (flag.toNat, b)) else none
    | none => none

/-- R49, R206: a cadence flag set: not empty, and of control flags only. -/
def controlSet (operand : List Byte) : Option (BitVec 13) :=
  let n := beNat operand
  if n ≠ 0 ∧ n < 2 ^ 13 then some (BitVec.ofNat 13 n) else none

/-- R49, Table 3-2: the action of an entry. Operand bytes the action does not use are not examined (R206). -/
def actionOf (code : Byte) (operand : List Byte) : Option CadenceAction :=
  match code.toNat, operand with
  | 1, o => (controlSet o).map .flagsSet
  | 2, o => (controlSet o).map .flagsClear
  | 3, p :: m :: _ =>
    (match modeOfByte m with
     | some mode => if 1 ≤ p.toNat ∧ p.toNat ≤ 6 then some (.panelMode p.toNat mode) else none
     | none => none)
  | 4, w :: _ => if w.toNat ≤ 11 then some (.windowShow w.toNat) else none
  | 5, w :: _ => if w.toNat ≤ 11 then some (.windowHide w.toNat) else none
  | 6, _ => some .sendReport
  | _, _ => none

/-- R49 check 2: a cadence entry with every field in its range. -/
def cadenceOf (r : RawCadence) : Option CadenceEntry :=
  match holidayOfByte r.holiday, conditionOf r.flag r.sense, actionOf r.action r.operand with
  | some h, some c, some a =>
    if r.weekdays.toNat ≤ 127 ∧ r.value ≤ 2047 ∧ r.mask ≤ 2047 then
      some { weekdays := r.weekdays.setWidth 7, holiday := h, value := BitVec.ofNat 11 r.value
             mask := BitVec.ofNat 11 r.mask, condition := c, action := a }
    else none
  | _, _, _ => none

/-- R49: the validation of a CADENCE load. -/
def validateCadence (rs : List RawCadence) : Except Reason (List CadenceEntry) :=
  if 32 < rs.length then .error .capacity
  else
    match allSome (rs.map cadenceOf) with
    | some es => .ok es
    | none => .error .field

/-- R49: a CADENCE load is validated and committed; the high mark is not changed. -/
def commitCadence (version : Nat) (rs : List RawCadence) (s : State) : State × Answer :=
  match validateCadence rs with
  | .error why => (s, .refused why)
  | .ok es => ({ s with clock := { s.clock with cadence := es, cadenceVersion := version } }, .committed)

/-! ### The cadence run (R50 to R56) -/

/-- R51: the holiday rule is met. -/
def holidayMet (s : State) (h : HolidayRule) : Bool :=
  match h with
  | .any => true
  | .notOnHoliday => !ctrlSet s bitHoliday
  | .onlyOnHoliday => ctrlSet s bitHoliday

/-- R51: minute `m` agrees with the match value in every bit of the match mask. -/
def minuteMatches (m : Nat) (value mask : BitVec 11) : Bool :=
  decide (BitVec.ofNat 11 m &&& mask = value &&& mask)

/-- R51: an entry matches the tick. -/
def entryMatches (s : State) (e : CadenceEntry) : Bool :=
  e.weekdays.getLsbD s.clock.weekday && holidayMet s e.holiday && minuteMatches s.clock.minute e.value e.mask

/-- R52: the condition of an entry holds as the flags now stand. -/
def conditionHolds (s : State) (e : CadenceEntry) : Bool :=
  match e.condition with
  | none => true
  | some (flag, sense) => decide (flagAt s flag = sense)

/-- R54: a panel is present in the window table in force. -/
def panelListed (s : State) (p : Nat) : Bool := s.board.panels.any fun e => decide (e.panel = p) && e.present

/-- R55: the fault of an entry whose panel or window is not present. -/
def cadenceFault (position : Nat) (s : State) : State := captureFault (faultNow s .absent .cadence position) s

/-- R53 to R56: the action of the entry at a position. -/
def doAction (position : Nat) (a : CadenceAction) (s : State) : State :=
  match a with
  | .flagsSet f => setCtrl (s.cond.ctrl ||| f) s
  | .flagsClear f => setCtrl (s.cond.ctrl &&& ~~~f) s
  | .panelMode p m => if panelListed s p then setPanelMode p m s else cadenceFault position s
  | .windowShow n => (match windowNumbered s n with | some w => showWindow w s | none => cadenceFault position s)
  | .windowHide n => (match windowNumbered s n with | some w => hideWindow w s | none => cadenceFault position s)
  | .sendReport => report .cadence s

/-- R50: the entries from a position on, one after another; each is decided as the flags stand when it is reached. -/
def runEntries : Nat → List CadenceEntry → State → State
  | _, [], s => s
  | i, e :: es, s =>
    runEntries (i + 1) es (if entryMatches s e && conditionHolds s e then doAction i e.action s else s)

/-- R50: the cadence runs on a tick above the high mark. -/
def cadenceRuns (s : State) : Bool :=
  match s.clock.highMark with
  | none => true
  | some h => decide (h < s.clock.minute)

/-- R50: the cadence on a minute tick. -/
def cadenceTick (s : State) : State :=
  if cadenceRuns s then
    runEntries 0 s.clock.cadence { s with clock := { s.clock with highMark := some s.clock.minute } }
  else s

/-! ### The works of a tick and of a day end (R39, R40) -/

/-- A block's work on a minute tick, or its day-end work for the day `old` that ended at minute `m`. -/
inductive Work where
  | timetable | board | panels | deny | report | cadence
  | timetableEnd (old : Nat)
  | tallyEnd
  | journalEnd (old m : Nat)
  deriving DecidableEq, Repr

/-- R39, R40: a block does its work. -/
def doWork (w : Work) (s : State) : State :=
  match w with
  | .timetable => timetableTick s
  | .board => boardTick s
  | .panels => panelTick s
  | .deny => denyTick s
  | .report => reportTick s
  | .cadence => cadenceTick s
  | .timetableEnd old => timetableDayEnd old s
  | .tallyEnd => tallyClear s
  | .journalEnd old m => journalDayEnd old m s

/-- R39: the works of a minute tick, one list for each block. -/
def tickWorks : List (List Work) := [[.timetable], [.board], [.panels], [.deny], [.report], [.cadence]]

/-- R40: the day-end works. -/
def dayEndWorks (old m : Nat) : List (List Work) := [[.timetableEnd old], [.tallyEnd], [.journalEnd old m]]

/-- R40: the works of a day end of ordinary running and of the tick that follows: each owner does its day-end work before its
work on the tick. -/
def rolloverWorks (old : Nat) : List (List Work) :=
  [[.timetableEnd old, .timetable], [.tallyEnd, .deny], [.journalEnd old 1439], [.board], [.panels], [.report], [.cadence]]

/-- R39: a minute tick at the minute the clock stands at; the blocks' works are given no order (log entry 2), and the panels are evaluated
before any composition the tick causes (log entry 40). -/
def minuteTick (s : State) : State := interleave doWork 6 tickWorks s

/-! ### The clock in ordinary running (R38, R40) -/

/-- R40: the weekday after a weekday. -/
def nextWeekday (w : Nat) : Nat := if w = 6 then 0 else w + 1

/-- R40: the clock at a day end: the new day at minute 0, CLOCK_JUMPED absent, the cadence high mark emptied. -/
def beginDay (day weekday : Nat) (s : State) : State :=
  { s with clock := { s.clock with day := day, weekday := weekday, minute := 0, jumped := false, highMark := none } }

/-- R38, R40: the second passes 59: the minute advances, or the day ends. -/
def minuteAdvance (s : State) : State :=
  if s.clock.valid = false then s
  else
    let s := { s with clock := { s.clock with second := 0 } }
    if s.clock.minute < 1439 then minuteTick { s with clock := { s.clock with minute := s.clock.minute + 1 } }
    else
      let old := s.clock.day
      interleave doWork 9 (rolloverWorks old) (beginDay (nextDay old) (nextWeekday s.clock.weekday) s)

/-! ### CLOCK SET (R41 to R45) -/

/-- R41: a CLOCK SET body; `none` when its length or a field is out of range. -/
def clockFields : List Byte → Option ClockFields
  | [d1, d0, w, m1, m0, sec] =>
    if w.toNat ≤ 6 ∧ beNat [m1, m0] ≤ 1439 ∧ sec.toNat ≤ 59 then
      some ⟨beNat [d1, d0], w.toNat, beNat [m1, m0], sec.toNat⟩
    else none
  | _ => none

/-- The clock takes a minute and a second. -/
def takeTime (minute second : Nat) (s : State) : State :=
  { s with clock := { s.clock with minute := minute, second := second } }

/-- R42: the clock is started. CLOCK_VALID is an input of SALES_OPEN. -/
def startClock (f : ClockFields) (s : State) : State :=
  minuteTick (evalSalesOpen { s with clock := { s.clock with
    day := f.day, weekday := f.weekday, minute := f.minute, second := f.second, valid := true } })

/-- R43: a set to a higher day. -/
def setLaterDay (f : ClockFields) (s : State) : State :=
  let t := interleave doWork 3 (dayEndWorks s.clock.day s.clock.minute) (beginDay f.day f.weekday s)
  minuteTick (takeTime f.minute f.second t)

/-- R45: a jump, its parts in the order the rule lists them (log entry 12). The notice is raised when CLOCK_JUMPED rises. -/
def jumpClock (f : ClockFields) (s : State) : State :=
  let t := minuteTick (takeTime f.minute f.second s)
  raiseIf (!s.clock.jumped) .clockJumped { t with clock := { t.clock with jumped := true } }

/-- R44: the clock takes the second of a set, and no set is in progress. -/
def takeSecond (second : Nat) (s : State) : State :=
  { s with clock := { s.clock with second := second, move := none } }

/-- R41: the answer to a CLOCK SET, given when the whole of its work is done. -/
def answerSet (to_ : Dest) (a : Answer) (s : State) : State := answer to_ 0x05 a noRef s

/-- R44: a set forward by some minutes is in progress, none of its ticks made. -/
def beginMove (to_ : Dest) (f : ClockFields) (s : State) : State :=
  { s with clock := { s.clock with move := some ⟨f.minute - s.clock.minute, f.second, to_⟩ } }

/-- R42 to R45: a CLOCK SET that has passed its checks is taken. One that moves the clock forward by ticks is left in progress, its
ticks still to be made; any other is completed and answered. A set of the same day leaves the weekday as it was (DESIGN CHOICE, log
entry 37). -/
def takeSet (to_ : Dest) (f : ClockFields) (s : State) : State :=
  if s.clock.valid = false then answerSet to_ .accepted (startClock f s)
  else if f.day < s.clock.day then answerSet to_ (.refused .order) s
  else if s.clock.day < f.day then answerSet to_ .accepted (setLaterDay f s)
  else if f.minute = s.clock.minute then answerSet to_ .accepted (takeSecond f.second s)
  else if s.clock.minute < f.minute ∧ f.minute ≤ s.clock.minute + 15 then beginMove to_ f s
  else answerSet to_ .accepted (jumpClock f s)

/-- R41, R32: a CLOCK SET is taken by its checks: refused with FIELD, or as R42 to R45 state. -/
def takeChecked (to_ : Dest) (f : Option ClockFields) (s : State) : State :=
  match f with
  | none => answerSet to_ (.refused .field) s
  | some f => takeSet to_ f s

/-- R41, R16: the CLOCK SETs that waited are taken, one after another, up to one that makes ticks of its own, so that their answers,
a REFUSED(FIELD) among them, join in the order in which they were consumed. -/
def takeWaiting : List (Dest × Option ClockFields) → State → State
  | [], s => { s with clock := { s.clock with waiting := [] } }
  | (d, f) :: rest, s =>
    if s.clock.move.isSome then { s with clock := { s.clock with waiting := (d, f) :: rest } }
    else takeWaiting rest (takeChecked d f s)

/-- R44: `n` minute ticks, one after another. -/
def catchUp : Nat → State → State
  | 0, s => s
  | n + 1, s => catchUp n (minuteTick { s with clock := { s.clock with minute := s.clock.minute + 1 } })

/-- R44: `n` of the ticks of a set in progress are made. After its last the clock takes the second, the answer is built, and the sets
that waited are taken (R41). -/
def makeTicks (n : Nat) (m : ClockMove) (s : State) : State :=
  let t := catchUp n s
  if n < m.left then { t with clock := { t.clock with move := some { m with left := m.left - n } } }
  else
    let t := answerSet m.to_ .accepted (takeSecond m.second t)
    takeWaiting t.clock.waiting t

/-- R41, R44: a set in progress goes on. Other events may fall between its ticks: how many come at once, one or more, is free (log entry
13). -/
def goOn (s : State) : State :=
  match s.clock.move with
  | none => s
  | some m => makeTicks (min m.left (1 + Config.freeChoice s.freeCount % m.left)) m (drawn s)

/-- R41, R16, R32: a consumed CLOCK SET is taken at once, or waits while another is in progress, one that its checks refuse too: a second
CLOCK SET is taken when the first has been completed, and its answer joins behind that of the first. -/
def takeClockSet (to_ : Dest) (body : List Byte) (s : State) : State :=
  if s.clock.move.isSome then
    { s with clock := { s.clock with waiting := s.clock.waiting ++ [(to_, clockFields body)] } }
  else goOn (takeChecked to_ (clockFields body) s)

/-- R38, R44, R46: the next minute tick. While a CLOCK SET makes its ticks it is the next of those. Otherwise it is the tick of ordinary
running, which falls when the second would pass 59: at any other second there is none, and so none right behind a CLOCK SET that has taken
another second than 59 (R46). Behind one that has taken second 59 the tick is made at once: it is taken as the next tick of ordinary
running, due one second later, and not as the one that fell together with the set, which R46 lets fall no more (DESIGN CHOICE, log entry
48). The command moves the clock alone: no other timer of the time base that R38 names counts a second with it, as each does where an
idle step takes the clock past second 59 (DESIGN CHOICE, log entry 51). -/
def nextTick (s : State) : State :=
  if s.clock.move.isSome then goOn s
  else if s.clock.second = 59 then minuteAdvance s
  else s

/-! ### Meanings -/

/-- MINUTE_TICK (R38 to R40, R44, R46). -/
def execMinuteTick (s : State) : Host.Outcome State Fault Refusal := whenPowered nextTick s

/-- CLOCK_SET (R41 to R45). -/
def execClockSet (to_ : Dest) (body : List Byte) (s : State) : Host.Outcome State Fault Refusal :=
  whenPowered (takeClockSet to_ body) s

end Sys2Proof.Machine
end

