-- ==== Sys2Proof/Machine/Loading.lean ====
section
/-! DEFINITION. The table loader (chapter 2): staging, LOAD BEGIN, LOAD SEGMENT, LOAD END and the commit, load silence, and the settings. -/

namespace Sys2Proof.Machine

/-! ### Staging (R22, R31) -/

/-- R31: the staging area of a kind. -/
def staging (s : State) (k : TableKind) : Option Staging :=
  match k with
  | .timetable => s.loader.timetable
  | .fares => s.loader.fares
  | .windows => s.loader.windows
  | .cadence => s.loader.cadence
  | .deny => s.loader.deny

/-- R31: the staging area of a kind replaced; the others are left as they are. -/
def setStaging (k : TableKind) (a : Option Staging) (s : State) : State :=
  { s with loader :=
      match k with
      | .timetable => { s.loader with timetable := a }
      | .fares => { s.loader with fares := a }
      | .windows => { s.loader with windows := a }
      | .cadence => { s.loader with cadence := a }
      | .deny => { s.loader with deny := a } }

/-! ### LOAD BEGIN (R23, R24, R205) -/

/-- R24: the further fields of a TIMETABLE load; `none` outside their ranges. -/
def loadRange (target fromDay toDay : Nat) : Option LoadRange :=
  if fromDay ≤ toDay then
    match target with
    | 0 => some ⟨.today, fromDay, toDay⟩
    | 1 => some ⟨.next, fromDay, toDay⟩
    | _ => none
  else none

/-- R23, R26: an area opened afresh: no segment, its timer started. -/
def openedArea (version count : Nat) (range : Option LoadRange) : Staging :=
  { version := version, segments := List.replicate count none, range := range, silence := 0 }

/-- R23, R24, R205: the area a LOAD BEGIN body opens, or the reason it is refused with. -/
def beginArea : List Byte → Except Reason (TableKind × Staging)
  | [k, v1, v0, n] =>
    match kindOfByte k with
    | none => .error .kind
    | some .timetable => .error .field
    | some kind =>
      if 1 ≤ n.toNat ∧ n.toNat ≤ 64 then .ok (kind, openedArea (beNat [v1, v0]) n.toNat none) else .error .field
  | [k, v1, v0, n, t, f1, f0, u1, u0] =>
    match kindOfByte k with
    | none => .error .kind
    | some .timetable =>
      if 1 ≤ n.toNat ∧ n.toNat ≤ 64 then
        match loadRange t.toNat (beNat [f1, f0]) (beNat [u1, u0]) with
        | some r => .ok (.timetable, openedArea (beNat [v1, v0]) n.toNat (some r))
        | none => .error .field
      else .error .field
    | some _ => .error .field
  | _ => .error .field

/-- Table 12-5: the reference of an answer: the first three body bytes. A byte the body does not hold is free (log entry 10). -/
def bodyRef (s : State) (body : List Byte) : List Byte :=
  (List.range 3).map fun i => body.getD i (Config.freeByte (s.freeCount + i))

/-- Log entry 10: the counter after a reference has been drawn. -/
def refDrawn (body : List Byte) (s : State) : State :=
  if body.length < 3 then { s with freeCount := s.freeCount + 3 } else s

/-- R23: a consumed LOAD BEGIN. -/
def takeLoadBegin (to_ : Dest) (body : List Byte) (s : State) : State :=
  match beginArea body with
  | .ok (k, a) => answer to_ 0x01 .accepted (bodyRef s body) (setStaging k (some a) s)
  | .error why => answer to_ 0x01 (.refused why) (bodyRef s body) (refDrawn body s)

/-! ### LOAD SEGMENT (R25) -/

/-- R25, Table 2-2: the area with the data of a segment stored at its index, its timer restarted. -/
def storeSegment (index : Nat) (data : List Byte) (a : Staging) : Staging :=
  { a with segments := a.segments.set index (some data), silence := 0 }

/-- R25, R32: a consumed LOAD SEGMENT. -/
def takeLoadSegment (body : List Byte) (s : State) : State :=
  match body with
  | k :: v1 :: v0 :: i :: data =>
    (match kindOfByte k with
     | none => s
     | some kind =>
       match staging s kind with
       | none => s
       | some a =>
         if a.version = beNat [v1, v0] ∧ i.toNat < a.segments.length then
           setStaging kind (some (storeSegment i.toNat data a)) s
         else s)
  | _ => s

/-! ### Assembly and commit (R28, R29, R118) -/

/-- R117, R118: a FARES load is validated and committed: every LIVE window is marked, a selecting sale is quoted again, and
SALES_OPEN is evaluated. -/
def commitFares (version : Nat) (rs : List RawFare) (s : State) : State × Answer :=
  match validateFares version rs with
  | .error why => (s, .refused why)
  | .ok f => (evalSalesOpen (requoteSale (markLive { s with fares := some f })), .committed)

/-- R28, R29: the data of a whole load is read as records and handed to the owner of its kind. -/
def commitLoad (k : TableKind) (a : Staging) (data : List (List Byte)) (s : State) : State × Answer :=
  match k with
  | .timetable =>
    (match assemble readService data, a.range with
     | some rs, some r => commitTimetable a.version r rs s
     | _, _ => (s, .refused .field))
  | .fares =>
    (match assemble readFare data with
     | some rs => commitFares a.version rs s
     | none => (s, .refused .field))
  | .windows =>
    (match assemble readWindow data with
     | some rs => commitWindows a.version rs s
     | none => (s, .refused .field))
  | .cadence =>
    (match assemble readCadence data with
     | some rs => commitCadence a.version rs s
     | none => (s, .refused .field))
  | .deny =>
    (match assemble readToken data with
     | some ts => commitDeny ts s
     | none => (s, .refused .field))

/-! ### LOAD END (R27) -/

/-- R27: the indices of the segments not yet received, lowest first. -/
def missingIndices (a : Staging) : List Nat :=
  (List.range a.segments.length).filter fun i => decide (a.segments[i]? = some none)

/-- R27: a LOAD END compared with the staging area of its kind. -/
def endLoad (k : TableKind) (version : Nat) (s : State) : State × Answer :=
  match staging s k with
  | none => (s, .noLoad)
  | some a =>
    if a.version ≠ version then (s, .noLoad)
    else
      match allSome a.segments with
      | none =>
        (setStaging k (some { a with silence := 0 }) s,
          .missing (missingIndices a).length ((missingIndices a).take 16))
      | some data => commitLoad k a data (setStaging k none s)

/-- R27, R32: a consumed LOAD END. What a commit brings in other blocks, an ALERT among it, comes before the ANSWER (DESIGN CHOICE, log
entry 52). -/
def takeLoadEnd (to_ : Dest) (body : List Byte) (s : State) : State :=
  match body with
  | [k, v1, v0] =>
    (match kindOfByte k with
     | none => answer to_ 0x03 (.refused .kind) body s
     | some kind =>
       let r := endLoad kind (beNat [v1, v0]) s
       answer to_ 0x03 r.2 body r.1)
  | _ => answer to_ 0x03 (.refused .field) (bodyRef s body) (refDrawn body s)

/-! ### Load silence (R26) -/

/-- R26: the load-silence timer of a kind expires: an open load is discarded. -/
def silenceExpires (k : TableKind) (s : State) : State := setStaging k none s

/-- R26: the load-silence timer of a kind is compared with its 5 minutes. -/
def silenceDue (k : TableKind) (s : State) : State :=
  match staging s k with
  | some a => if Config.loadSilence ≤ a.silence then silenceExpires k s else s
  | none => s

/-! ### Settings (R33 to R35) -/

/-- Table 2-7: the range of a setting; `none` for an unknown id. -/
def settingRange (id : Nat) : Option (Nat × Nat) :=
  match id with
  | 1 => some (1, 30)
  | 2 => some (5, 120)
  | 3 => some (20, 180)
  | 4 => some (2, 30)
  | 5 => some (1, 60)
  | 6 => some (0, 60)
  | 7 => some (0, 120)
  | 8 => some (1, 60)
  | 9 => some (1, 72)
  | 10 => some (0, 65535)
  | 11 => some (0, 65535)
  | 12 => some (1, 15)
  | 13 => some (0, 9999)
  | 14 => some (0, 255)
  | 15 => some (0, 255)
  | 16 => some (0, 255)
  | 17 => some (0, 255)
  | 18 => some (1, 8)
  | 19 => some (1, 2039)
  | 20 => some (2, 2040)
  | _ => none

/-- Table 2-7: the value of a setting. -/
def settingValue (t : Settings) (id : Nat) : Nat :=
  match id with
  | 1 => t.linkSilence
  | 2 => t.ackWindow
  | 3 => t.inactivity
  | 4 => t.staleWindow
  | 5 => t.lapseWindow
  | 6 => t.cancelDisplay
  | 7 => t.wakeLead
  | 8 => t.reportEvery
  | 9 => t.denyAgeLimit
  | 10 => t.cardFloor
  | 11 => t.cardDaily
  | 12 => t.cardCount
  | 13 => t.serialsLow
  | 14 => t.tubeLow10
  | 15 => t.tubeLow20
  | 16 => t.tubeLow50
  | 17 => t.tubeLow100
  | 18 => t.mergeShare
  | 19 => t.journalL1
  | _ => t.journalL2

/-- Table 2-7: the settings with one replaced. -/
def putSetting (id v : Nat) (t : Settings) : Settings :=
  match id with
  | 1 => { t with linkSilence := v }
  | 2 => { t with ackWindow := v }
  | 3 => { t with inactivity := v }
  | 4 => { t with staleWindow := v }
  | 5 => { t with lapseWindow := v }
  | 6 => { t with cancelDisplay := v }
  | 7 => { t with wakeLead := v }
  | 8 => { t with reportEvery := v }
  | 9 => { t with denyAgeLimit := v }
  | 10 => { t with cardFloor := v }
  | 11 => { t with cardDaily := v }
  | 12 => { t with cardCount := v }
  | 13 => { t with serialsLow := v }
  | 14 => { t with tubeLow10 := v }
  | 15 => { t with tubeLow20 := v }
  | 16 => { t with tubeLow50 := v }
  | 17 => { t with tubeLow100 := v }
  | 18 => { t with mergeShare := v }
  | 19 => { t with journalL1 := v }
  | _ => { t with journalL2 := v }

/-- R33: a value brought into a range. -/
def clampTo (r : Nat × Nat) (v : Nat) : Nat := max r.1 (min v r.2)

/-- R35: the two journal thresholds stay apart. -/
def thresholdsApart (t : Settings) (id v : Nat) : Bool :=
  match id with
  | 19 => decide (v < t.journalL2)
  | 20 => decide (t.journalL1 < v)
  | _ => true

/-- R34: what a changed setting bears on at once. -/
def settingChanged (id : Nat) (s : State) : State :=
  match id with
  | 1 => linkDue s
  | 2 => ackDue s
  | 3 => inactivityDue s
  | 7 => evalPanels s
  | 8 => reportDue s
  | 9 => evalDenyOld s
  | 13 => evalSerials s
  | 14 | 15 | 16 | 17 => evalTubes s
  | 19 | 20 => evalFill s
  | _ => s

/-- R33 to R35: a known setting takes a value. Taking the value it holds compares nothing (log entry 26). -/
def setSetting (id v : Nat) (range : Nat × Nat) (s : State) : State × Answer :=
  let w := clampTo range v
  if thresholdsApart s.settings id w = false then (s, .refused .field)
  else
    (if settingValue s.settings id = w then s
      else settingChanged id { s with settings := putSetting id w s.settings },
     if w = v then .accepted else .clamped)

/-- Table 12-5: the reference of an ANSWER to a SETTING: its id and the value it now holds. -/
def settingRef (id : Byte) (s : State) : List Byte := id :: beBytes 2 (settingValue s.settings id.toNat)

/-- R33, R32: a consumed SETTING. The reference value of an unknown id, and of an id that is missing, is free (log entry 10). What the
changed setting brings at once, an ALERT or a PERIODIC report among it, comes before the ANSWER (DESIGN CHOICE, log entry 52). -/
def takeSetting (to_ : Dest) (body : List Byte) (s : State) : State :=
  match body with
  | [id, v1, v0] =>
    (match settingRange id.toNat with
     | some range =>
       let r := setSetting id.toNat (beNat [v1, v0]) range s
       answer to_ 0x04 r.2 (settingRef id r.1) r.1
     | none =>
       answer to_ 0x04 (.refused .kind) (bodyRef s [id]) (refDrawn [id] s))
  | id :: _ =>
    if (settingRange id.toNat).isSome then answer to_ 0x04 (.refused .field) (settingRef id s) s
    else answer to_ 0x04 (.refused .field) (bodyRef s [id]) (refDrawn [id] s)
  | [] => answer to_ 0x04 (.refused .field) (bodyRef s []) (refDrawn [] s)

/-! ### Line restart (R37) -/

/-- R37: every open staging area is discarded. -/
def loaderRestart (s : State) : State := { s with loader := Loader.empty }

/-! ### Meanings -/

/-- LOAD_BEGIN (R23). -/
def execLoadBegin (to_ : Dest) (body : List Byte) (s : State) : Host.Outcome State Fault Refusal :=
  whenPowered (takeLoadBegin to_ body) s

/-- LOAD_SEGMENT (R25). -/
def execLoadSegment (_to : Dest) (body : List Byte) (s : State) : Host.Outcome State Fault Refusal :=
  whenPowered (takeLoadSegment body) s

/-- LOAD_END (R27). -/
def execLoadEnd (to_ : Dest) (body : List Byte) (s : State) : Host.Outcome State Fault Refusal :=
  whenPowered (takeLoadEnd to_ body) s

/-- LOAD_SILENCE_EXPIRY (R26). -/
def execLoadSilenceExpiry (kind : TableKind) (s : State) : Host.Outcome State Fault Refusal :=
  whenPowered (silenceExpires kind) s

/-- SETTING (R33). -/
def execSetting (to_ : Dest) (body : List Byte) (s : State) : Host.Outcome State Fault Refusal :=
  whenPowered (takeSetting to_ body) s

end Sys2Proof.Machine
end

