-- ==== Sys2Proof/Machine/Line.lean ====
section
/-! DEFINITION. The line unit (chapter 1): the frame check, the address filter, the transit queues, the inbound merge, link silence, and
the line restart of the whole part (R18). -/

namespace Sys2Proof.Machine

/-! ### The line restart (R18, R37, R83, R104, R112, R153, R172, R191, R196) -/

/-- R18: the line unit: the own-frame queue is emptied and the streak count becomes 0. -/
def lineRestart (s : State) : State := { s with line := { s.line with ownQ := [], streak := 0 } }

/-- R153: the sale context returns to IDLE; CLOSED(RESTART) is sent when it was not there. -/
def saleRestart (s : State) : State :=
  if s.sale.state = .idle then saleToRest s else tellConsole (.closed .restart) (saleToRest s)

/-- R18: the line restart of the whole part; the order of the blocks is the model's (log entry 27). SALES_OPEN is evaluated from
the inputs as the owners leave them (R195). -/
def restartAll (s : State) : State :=
  let s := conditionRestart (loaderRestart (lineRestart s))
  let s := journalRestart (paymentRestart (saleRestart s))
  setSalesOpen (panelRestart (boardRestart (timetableRestart s)))

/-- R18, R32: a consumed RESTART. -/
def takeRestart (body : List Byte) (s : State) : State :=
  match body with
  | [] => restartAll s
  | _ :: _ => s

/-! ### Consumed frames (R15, Table 12-2) -/

/-- R15: a consumed frame is handed to the owner of its kind; a frame of any other kind is discarded. -/
def consume (kind : Byte) (to_ : Dest) (body : List Byte) (s : State) : State :=
  match kind.toNat with
  | 0x01 => takeLoadBegin to_ body s
  | 0x02 => takeLoadSegment body s
  | 0x03 => takeLoadEnd to_ body s
  | 0x04 => takeSetting to_ body s
  | 0x05 => takeClockSet to_ body s
  | 0x06 => takeRunningUpdate body s
  | 0x07 => takeRowWrite to_ body s
  | 0x08 => takePanelMode body s
  | 0x09 => takeFlags body s
  | 0x0A => takeNoticeClear body s
  | 0x0B => takeNoticeMask body s
  | 0x0C => takeFaultClear body s
  | 0x0D => takeStatusPoll to_ body s
  | 0x0E => takeTubeSet to_ body s
  | 0x0F => takeDenyAdd to_ body s
  | 0x10 => takeDenyConfirm body s
  | 0x11 => takeSerialBlock to_ body s
  | 0x12 => takeJournalAck body s
  | 0x13 => takeRestart body s
  | _ => s

/-! ### The frame check (R6, R203, R204) -/

/-- Table 12-1: the two directions of a frame. -/
inductive FrameDir where
  | outbound | inbound
  deriving DecidableEq, Repr

/-- R6: the tests of the frame check, for a port that takes frames of one direction. Address bits 6 and 5 take no part (R204). -/
def frameGood (dir : FrameDir) (chars : List Byte) : Bool :=
  match chars with
  | a :: _ :: l :: _ =>
    decide (chars.length ≤ Config.frameMax) && decide (l.toNat ≤ Config.bodyMax) && decide (chars.length = 5 + l.toNat)
      && checkGood chars && decide (a.getLsbD 7 = decide (dir = .inbound))
  | _ => false

/-- R204: the halt number of a frame, bits 4 to 0 of its address. -/
def frameHalt (chars : List Byte) : Nat := (chars.headD 0).toNat % 32

/-- The kind byte of a frame. -/
def frameKind (chars : List Byte) : Byte := chars.getD 1 0

/-- The body of a frame that has passed the check. -/
def frameBody (chars : List Byte) : List Byte := (chars.drop 3).take (chars.length - 5)

/-- R6, R20: a discarded frame is counted. -/
def countBad (s : State) : State := { s with line := { s.line with checkErrors := bump s.line.checkErrors } }

/-! ### The upline port (R5, R7, R9) -/

/-- R9: a frame offered to the outbound transit queue. -/
def offerOutbound (chars : List Byte) (s : State) : State :=
  if s.line.outboundQ.length < Config.outboundCap then
    { s with line := { s.line with outboundQ := s.line.outboundQ ++ [chars] } }
  else { s with line := { s.line with transitDrops := bump s.line.transitDrops } }

/-- R7, Table 1-1: the frame is forwarded: not at the end of the chain, and for all halts or for another halt. -/
def forwards (s : State) (h : Nat) : Bool :=
  !s.line.straps.endOfChain && decide (h = 0 ∨ h ≠ s.line.straps.haltNumber.val)

/-- R7, Table 1-1: how the frame is consumed: for all halts, for this halt, or not at all. -/
def consumedAs (s : State) (h : Nat) : Option Dest :=
  if h = 0 then some .all else if h = s.line.straps.haltNumber.val then some .own else none

/-- R7: a valid frame passes the address filter: it joins the outbound queue, or is dropped from a full one, before its owner acts on it.
R18 and Table 1-7 state this order for RESTART. For every other broadcast kind R7 leaves it open, and the model takes the same: so a
broadcast STATUS POLL with the clear-counters option that finds the queue full counts its transit drop and then clears it (DESIGN CHOICE,
log entry 50). -/
def filterFrame (chars : List Byte) (s : State) : State :=
  let t := if forwards s (frameHalt chars) then offerOutbound chars s else s
  match consumedAs s (frameHalt chars) with
  | some to_ => consume (frameKind chars) to_ (frameBody chars) t
  | none => t

/-- R5 to R7, R17: a frame ends at the upline port. At a receiver that still waits, its end is the idle line (log entry 7). A valid frame
restarts the link-silence timer, and raises LINK_RESTORED with its ALERT, before it is forwarded and acted on: Table 1-7's order for
RESTART, taken for every kind (DESIGN CHOICE, log entry 50). -/
def uplineFrameEnds (chars : List Byte) (s : State) : State :=
  if s.line.upReady = false then { s with line := { s.line with upReady := true } }
  else if frameGood .outbound chars then filterFrame chars (linkHeard s)
  else countBad s

/-! ### The downline port (R5, R8, R10) -/

/-- R10: a frame offered to the inbound transit queue. -/
def offerInbound (chars : List Byte) (s : State) : State :=
  if s.line.inboundQ.length < Config.inboundCap then
    { s with line := { s.line with inboundQ := s.line.inboundQ ++ [chars] } }
  else { s with line := { s.line with transitDrops := bump s.line.transitDrops } }

/-- R5, R6, R8, R10: a frame ends at the downline port. -/
def downlineFrameEnds (chars : List Byte) (s : State) : State :=
  if s.line.straps.endOfChain then s
  else if s.line.downReady = false then { s with line := { s.line with downReady := true } }
  else if frameGood .inbound chars then offerInbound chars s
  else countBad s

/-- R5, R8: a receiver sees its line idle for three character times. -/
def receiverIdle (port : Port) (s : State) : State :=
  match port with
  | .upline => { s with line := { s.line with upReady := true } }
  | .downline => if s.line.straps.endOfChain then s else { s with line := { s.line with downReady := true } }

/-! ### The downline transmitter (R9) -/

/-- R9: the transmitter, its gap run, takes the head of the outbound transit queue. -/
def beginOutbound (s : State) : State :=
  match s.line.downTx, s.line.outboundQ with
  | .sending _, _ => s
  | _, [] => s
  | _, f :: fs => { s with line := { s.line with downTx := .sending f, outboundQ := fs } }

/-- R9: the last character has been sent, and the gap begins. -/
def outboundDone (s : State) : State :=
  match s.line.downTx with
  | .sending f => send (.downline f) { s with line := { s.line with downTx := .gap } }
  | .idle | .gap => s

/-! ### The inbound merge (R13, R14) -/

/-- R14: the effective merge share. -/
def effectiveShare (s : State) : Nat := if s.jrn.l1 then 1 else s.settings.mergeShare

/-- A transit frame begins upline, with the streak count after it. -/
def sendTransit (streak : Nat) (s : State) : State :=
  match s.line.inboundQ with
  | [] => s
  | f :: fs => { s with line := { s.line with upTx := .sending (.transit f), inboundQ := fs, streak := streak } }

/-- An own frame begins upline; the streak count returns to 0. -/
def sendOwn (s : State) : State :=
  match s.line.ownQ with
  | [] => s
  | f :: fs => { s with line := { s.line with upTx := .sending (.own f), ownQ := fs, streak := 0 } }

/-- R13, Table 1-2: the choice of the inbound merge. -/
def mergeChoice (s : State) : State :=
  match s.line.inboundQ, s.line.ownQ with
  | [], _ => sendOwn s
  | _ :: _, [] => sendTransit 0 s
  | _ :: _, _ :: _ =>
    if s.line.streak < effectiveShare s then sendTransit (s.line.streak + 1) s else sendOwn s

/-- R13: the merge chooses once the upline transmitter is idle and its gap has run. -/
def merge (s : State) : State :=
  match s.line.upTx with
  | .sending _ => s
  | .idle | .gap => mergeChoice s

/-- R12, R185: what the block that built an own frame is told when it has left. -/
def ownLeft (k : OwnKind) (s : State) : State :=
  match k with
  | .journal => journalLeft s
  | .answer | .haltReport => s

/-- R4, R12: the last character has been sent upline, and the gap begins. -/
def uplineDone (s : State) : State :=
  match s.line.upTx with
  | .sending (.transit f) => send (.upline (.transit f)) { s with line := { s.line with upTx := .gap } }
  | .sending (.own f) => ownLeft f.kind (send (.upline (.own f)) { s with line := { s.line with upTx := .gap } })
  | .idle | .gap => s

/-! ### Link silence (R17) -/

/-- R17: the link-silence timer expires; it runs only while LINK_LOST is absent. -/
def linkSilent (s : State) : State := if s.line.linkTimer.isSome && !s.line.linkLost then linkExpires s else s

/-! ### Meanings -/

/-- UPLINE_FRAME (R6, R7, R17). -/
def execUplineFrame (chars : List Byte) (s : State) : Host.Outcome State Fault Refusal :=
  whenPowered (uplineFrameEnds chars) s

/-- DOWNLINE_FRAME (R6, R10). -/
def execDownlineFrame (chars : List Byte) (s : State) : Host.Outcome State Fault Refusal :=
  whenPowered (downlineFrameEnds chars) s

/-- RECEIVER_LINE_IDLE (R5). -/
def execReceiverLineIdle (port : Port) (s : State) : Host.Outcome State Fault Refusal :=
  whenPowered (receiverIdle port) s

/-- OUTBOUND_SEND (R9). -/
def execOutboundSend (s : State) : Host.Outcome State Fault Refusal := whenPowered beginOutbound s

/-- DOWNLINE_SEND_DONE (R9). -/
def execDownlineSendDone (s : State) : Host.Outcome State Fault Refusal := whenPowered outboundDone s

/-- INBOUND_MERGE (R13, R14). -/
def execInboundMerge (s : State) : Host.Outcome State Fault Refusal := whenPowered merge s

/-- UPLINE_SEND_DONE (R12). -/
def execUplineSendDone (s : State) : Host.Outcome State Fault Refusal := whenPowered uplineDone s

/-- LINK_SILENCE_EXPIRY (R17). -/
def execLinkSilenceExpiry (s : State) : Host.Outcome State Fault Refusal := whenPowered linkSilent s

/-- RESTART (R18). -/
def execRestart (_to : Dest) (body : List Byte) (s : State) : Host.Outcome State Fault Refusal :=
  whenPowered (takeRestart body) s

end Sys2Proof.Machine
end

