-- ==== Sys2Proof/Machine/Power.lean ====
section
/-! DEFINITION. The supply (R21, R173, R174, R190): the cold start, the failure of the main supply and of the standby supply. -/

namespace Sys2Proof.Machine

/-- R174: the retained store as the cold start reads it: as it stands, or initialised afresh when the marker is missing. -/
def storeAtStart (r : Retained) : Retained := if r.marker then r else Retained.fresh

/-- The part at the beginning of a cold start: every volatile item at its cold-start value, the straps read (R19), the retained
store as R174 takes it. The model's own fields are kept. -/
def startingState (straps : Straps) (s : State) : State :=
  { State.reset with
    line := Line.coldStart straps
    settings := Settings.default straps.preset
    ret := storeAtStart s.ret
    jrn := { sendPoint := s.ret.ackPoint, highPoint := s.ret.ackPoint, reserved := false, ackTimer := none, l1 := false
             l2 := false, noSerials := false, serialsLow := false }
    out := s.out
    freeCount := s.freeCount
    pending := s.pending }

/-- R174, R190 step 4: the send point and the high point become the ack point. -/
def marksAtStart (s : State) : State :=
  { s with jrn := { s.jrn with
      sendPoint := s.ret.ackPoint, highPoint := s.ret.ackPoint, reserved := false, ackTimer := none } }

/-- R154, R171: the messages a cold start sends, in the order of log entry 8. -/
def sendAll (ms : List OutMsg) (s : State) : State := { s with out := s.out ++ ms }

/-- R21, R19, R36, R37, R47, R57, R82, R104, R105, R154, R171, R174, R190, R192 to R202: the cold start. Only a store that was
found is recovered; no notice is raised. -/
def coldStart (straps : Straps) (s : State) : State :=
  let t := startingState straps s
  let t := if s.ret.marker then recoverRecord .powerLoss t else t
  sendAll coldStartMessages (setLows (evalJournalQuiet (marksAtStart t)))

/-- R21, R173: the main supply fails or the reset input is asserted: the part stops, and of its state only the retained store
survives. The lost items hold their reset values (log entry 6). -/
def powerFails (s : State) : State :=
  if s.powered then
    { State.reset with powered := false, ret := s.ret, out := s.out, freeCount := s.freeCount, pending := s.pending }
  else s

/-- R174: what a store that has lost its standby supply holds: no marker; its other items are not read before they are
initialised (log entry 6). -/
def Retained.lost : Retained := { Retained.fresh with marker := false }

/-- R174: the standby supply fails; the retained store is lost when the main supply is off. -/
def standbyFails (s : State) : State := if s.powered then s else { s with ret := Retained.lost }

/-! ### Meanings -/

/-- COLD_START (R21). -/
def execColdStart (straps : Straps) (s : State) : Host.Outcome State Fault Refusal := .next (coldStart straps s)

/-- POWER_FAILED (R21, R173). -/
def execPowerFailed (s : State) : Host.Outcome State Fault Refusal := .next (powerFails s)

/-- STANDBY_SUPPLY_FAILED (R174). -/
def execStandbySupplyFailed (s : State) : Host.Outcome State Fault Refusal := .next (standbyFails s)

end Sys2Proof.Machine
end

