-- ==== Sys2Proof/Machine/Dispatch.lean ====
section
/-! DEFINITION. The meaning of each command: one arm for each constructor of Instr. -/

namespace Sys2Proof.Machine

def exec (i : Instr) (s : State) : Host.Outcome State Fault Refusal :=
  match i with
  | .coldStart straps => Sys2Proof.Machine.execColdStart straps s
  | .powerFailed => Sys2Proof.Machine.execPowerFailed s
  | .standbySupplyFailed => Sys2Proof.Machine.execStandbySupplyFailed s
  | .receiverLineIdle port => Sys2Proof.Machine.execReceiverLineIdle port s
  | .uplineFrame chars => Sys2Proof.Machine.execUplineFrame chars s
  | .downlineFrame chars => Sys2Proof.Machine.execDownlineFrame chars s
  | .outboundSend => Sys2Proof.Machine.execOutboundSend s
  | .downlineSendDone => Sys2Proof.Machine.execDownlineSendDone s
  | .inboundMerge => Sys2Proof.Machine.execInboundMerge s
  | .uplineSendDone => Sys2Proof.Machine.execUplineSendDone s
  | .linkSilenceExpiry => Sys2Proof.Machine.execLinkSilenceExpiry s
  | .restart to_ body => Sys2Proof.Machine.execRestart to_ body s
  | .loadBegin to_ body => Sys2Proof.Machine.execLoadBegin to_ body s
  | .loadSegment to_ body => Sys2Proof.Machine.execLoadSegment to_ body s
  | .loadEnd to_ body => Sys2Proof.Machine.execLoadEnd to_ body s
  | .loadSilenceExpiry kind => Sys2Proof.Machine.execLoadSilenceExpiry kind s
  | .setting to_ body => Sys2Proof.Machine.execSetting to_ body s
  | .minuteTick => Sys2Proof.Machine.execMinuteTick s
  | .clockSet to_ body => Sys2Proof.Machine.execClockSet to_ body s
  | .runningUpdate to_ body => Sys2Proof.Machine.execRunningUpdate to_ body s
  | .rowWrite to_ body => Sys2Proof.Machine.execRowWrite to_ body s
  | .composition => Sys2Proof.Machine.execComposition s
  | .panelMode to_ body => Sys2Proof.Machine.execPanelMode to_ body s
  | .busTransaction => Sys2Proof.Machine.execBusTransaction s
  | .ack chars => Sys2Proof.Machine.execAck chars s
  | .ackExpiry => Sys2Proof.Machine.execAckExpiry s
  | .pingTimerExpiry panel => Sys2Proof.Machine.execPingTimerExpiry panel s
  | .wake => Sys2Proof.Machine.execWake s
  | .destination stop => Sys2Proof.Machine.execDestination stop s
  | .service id => Sys2Proof.Machine.execService id s
  | .product p => Sys2Proof.Machine.execProduct p s
  | .party na nc nq => Sys2Proof.Machine.execParty na nc nq s
  | .confirm total => Sys2Proof.Machine.execConfirm total s
  | .cancel => Sys2Proof.Machine.execCancel s
  | .inactivityExpiry => Sys2Proof.Machine.execInactivityExpiry s
  | .stopRequest id => Sys2Proof.Machine.execStopRequest id s
  | .offer value => Sys2Proof.Machine.execOffer value s
  | .token token => Sys2Proof.Machine.execToken token s
  | .done => Sys2Proof.Machine.execDone s
  | .fault => Sys2Proof.Machine.execFault s
  | .printTimerExpiry => Sys2Proof.Machine.execPrintTimerExpiry s
  | .printerReady => Sys2Proof.Machine.execPrinterReady s
  | .payoutDone c10 c20 c50 c100 => Sys2Proof.Machine.execPayoutDone c10 c20 c50 c100 s
  | .payoutTimerExpiry => Sys2Proof.Machine.execPayoutTimerExpiry s
  | .coinReady => Sys2Proof.Machine.execCoinReady s
  | .coinNotReady => Sys2Proof.Machine.execCoinNotReady s
  | .cardReady => Sys2Proof.Machine.execCardReady s
  | .cardNotReady => Sys2Proof.Machine.execCardNotReady s
  | .tubeSet to_ body => Sys2Proof.Machine.execTubeSet to_ body s
  | .denyAdd to_ body => Sys2Proof.Machine.execDenyAdd to_ body s
  | .denyConfirm to_ body => Sys2Proof.Machine.execDenyConfirm to_ body s
  | .serialBlock to_ body => Sys2Proof.Machine.execSerialBlock to_ body s
  | .journalAck to_ body => Sys2Proof.Machine.execJournalAck to_ body s
  | .journalBuild => Sys2Proof.Machine.execJournalBuild s
  | .ackTimerExpiry => Sys2Proof.Machine.execAckTimerExpiry s
  | .flags to_ body => Sys2Proof.Machine.execFlags to_ body s
  | .noticeClear to_ body => Sys2Proof.Machine.execNoticeClear to_ body s
  | .noticeMask to_ body => Sys2Proof.Machine.execNoticeMask to_ body s
  | .faultClear to_ body => Sys2Proof.Machine.execFaultClear to_ body s
  | .statusPoll to_ body => Sys2Proof.Machine.execStatusPoll to_ body s
  | .reportTimerExpiry => Sys2Proof.Machine.execReportTimerExpiry s

end Sys2Proof.Machine
end

