-- ==== Sys2Proof/Machine/Seconds.lean ====
section
/-! DEFINITION. The part's own time base (R38): what one second does. The table has no row for it: it is what the model does while no
command waits (log entry 1). -/

namespace Sys2Proof.Machine

/-- A running timer has measured one second more. -/
def plusSecond (t : Timer) : Timer := t.map (· + 1)

/-- R26: an open staging area's timer has measured one second more. -/
def Staging.plusSecond (a : Staging) : Staging := { a with silence := a.silence + 1 }

/-- R26: the load-silence timers. -/
def Loader.plusSecond (l : Loader) : Loader :=
  { timetable := l.timetable.map Staging.plusSecond, fares := l.fares.map Staging.plusSecond
    windows := l.windows.map Staging.plusSecond, cadence := l.cadence.map Staging.plusSecond
    deny := l.deny.map Staging.plusSecond }

/-- R38: every timer of the time base that runs has measured one second more. -/
def advanceTimers (s : State) : State :=
  { s with
    line := { s.line with linkTimer := plusSecond s.line.linkTimer }
    loader := s.loader.plusSecond
    jrn := { s.jrn with ackTimer := plusSecond s.jrn.ackTimer }
    sale := { s.sale with
      inactivity := plusSecond s.sale.inactivity, print := plusSecond s.sale.print, payout := plusSecond s.sale.payout }
    panels := { s.panels with recs := s.panels.recs.map fun r => { r with pingTimer := plusSecond r.pingTimer } } }

/-- What may fall due at a second. -/
inductive SecondWork where
  | link | ack | inactivity | print | payout
  | silence (k : TableKind)
  | ping (p : Nat)
  | clock
  deriving DecidableEq, Repr

/-- R38: the second advances; when it would pass 59 the minute advances. Here the timers have counted the same second, as they have not
where the command MINUTE_TICK takes the clock past second 59 (log entry 51). -/
def clockSecond (s : State) : State :=
  if s.clock.valid = false then s
  else if s.clock.second < 59 then { s with clock := { s.clock with second := s.clock.second + 1 } }
  else minuteAdvance s

/-- A timer is compared with its limit, or the clock's second advances. -/
def doSecond (w : SecondWork) (s : State) : State :=
  match w with
  | .link => linkDue s
  | .ack => ackDue s
  | .inactivity => inactivityDue s
  | .print => printDue s
  | .payout => payoutDue s
  | .silence k => silenceDue k s
  | .ping p => pingDueAt p s
  | .clock => clockSecond s

/-- The works of a second, which the spec gives no order (log entry 2). -/
def secondWorks : List (List SecondWork) :=
  [[.link], [.ack], [.inactivity], [.print], [.payout], [.silence .timetable], [.silence .fares], [.silence .windows],
    [.silence .cadence], [.silence .deny], [.ping 1], [.ping 2], [.ping 3], [.ping 4], [.ping 5], [.ping 6], [.clock]]

/-- R38: one second of the time base. -/
def secondTick (s : State) : State := interleave doSecond 17 secondWorks (advanceTimers s)

/-- Log entries 1 and 13: what the model does while no command waits and the part has power: a CLOCK SET in progress goes on (R44:
meanwhile the time base does not advance the second), or a second passes. -/
def idle (s : State) : State :=
  if s.powered then (if s.clock.move.isSome then goOn s else secondTick s) else s

end Sys2Proof.Machine
end

