-- ==== Sys2Proof/WellFormed.lean ====
section
/-! DEFINITION. Which commands a sender can really send: the ranges of Tables 8-1 and 9-1, of the panel numbers and of the body
length. The meanings do not rest on it: a module message outside its range is ignored by R129 and R155. -/

namespace Sys2Proof

/-- The operands lie in the ranges the spec gives the message, frame or event. -/
def WellFormed : Instr → Bool
  | .restart _ b | .loadBegin _ b | .loadSegment _ b | .loadEnd _ b | .setting _ b | .clockSet _ b
  | .runningUpdate _ b | .rowWrite _ b | .panelMode _ b | .tubeSet _ b | .denyAdd _ b | .denyConfirm _ b
  | .serialBlock _ b | .journalAck _ b | .flags _ b | .noticeClear _ b | .noticeMask _ b | .faultClear _ b
  | .statusPoll _ b => decide (b.length ≤ Config.bodyMax)
  | .pingTimerExpiry p => decide (1 ≤ p ∧ p ≤ 6)
  | .destination d => decide (d ≤ 255)
  | .service id => decide (1 ≤ id ∧ id ≤ 65535)
  | .stopRequest id => decide (1 ≤ id ∧ id ≤ 65535)
  | .party na nc nq => decide (na ≤ 15 ∧ nc ≤ 15 ∧ nq ≤ 15)
  | .confirm t => decide (t ≤ 99999)
  | .offer v => decide (v ≤ 65535)
  | .token t => decide (t < 2 ^ 64)
  | .payoutDone a b c d => decide (a ≤ 255 ∧ b ≤ 255 ∧ c ≤ 255 ∧ d ≤ 255)
  | .coldStart _ | .powerFailed | .standbySupplyFailed | .receiverLineIdle _ | .uplineFrame _ | .downlineFrame _
  | .outboundSend | .downlineSendDone | .inboundMerge | .uplineSendDone | .linkSilenceExpiry
  | .loadSilenceExpiry _ | .minuteTick | .composition | .busTransaction | .ack _ | .ackExpiry | .wake
  | .product _ | .cancel | .inactivityExpiry | .done | .fault | .printTimerExpiry | .printerReady
  | .payoutTimerExpiry | .coinReady | .coinNotReady | .cardReady | .cardNotReady | .journalBuild
  | .ackTimerExpiry | .reportTimerExpiry => true

end Sys2Proof
end

