-- ==== Sys2Proof/Safety.lean ====
section
/-! DEFINITION. What counts as a safe state of the FH240: the bounds the spec gives its queues, counters and lists, and what its flags,
timers and marks are derived from. Claims say that every step keeps each of these. -/

namespace Sys2Proof.Machine

/-- R8 to R11, R13, R17, R20: the line unit. Queues stay within their capacities and the streak count within 8; counters stop at
65,535; the downline port of an end-of-chain halt stays out of use; a halt strapped to 0 holds no own frame; the link-silence timer
runs exactly while LINK_LOST is absent. -/
def LineSafe (s : State) : Prop :=
  s.line.outboundQ.length ≤ 8 ∧ s.line.inboundQ.length ≤ 16 ∧ s.line.ownQ.length ≤ 6
    ∧ s.line.streak ≤ 8 ∧ s.settings.mergeShare ≤ 8
    ∧ s.line.checkErrors ≤ 65535 ∧ s.line.transitDrops ≤ 65535 ∧ s.line.ownDrops ≤ 65535
    ∧ (s.line.straps.endOfChain = true → s.line.outboundQ = [] ∧ s.line.inboundQ = [] ∧ s.line.downTx = .idle)
    ∧ (s.line.straps.haltNumber = 0 → s.line.ownQ = [])
    ∧ s.line.linkTimer.isSome = !s.line.linkLost

/-- R33, R35: every setting lies in its range of Table 2-7, and journal L1 is below journal L2. -/
def SettingsSafe (t : Settings) : Prop :=
  (1 ≤ t.linkSilence ∧ t.linkSilence ≤ 30) ∧ (5 ≤ t.ackWindow ∧ t.ackWindow ≤ 120)
    ∧ (20 ≤ t.inactivity ∧ t.inactivity ≤ 180) ∧ (2 ≤ t.staleWindow ∧ t.staleWindow ≤ 30)
    ∧ (1 ≤ t.lapseWindow ∧ t.lapseWindow ≤ 60) ∧ t.cancelDisplay ≤ 60 ∧ t.wakeLead ≤ 120
    ∧ (1 ≤ t.reportEvery ∧ t.reportEvery ≤ 60) ∧ (1 ≤ t.denyAgeLimit ∧ t.denyAgeLimit ≤ 72)
    ∧ t.cardFloor ≤ 65535 ∧ t.cardDaily ≤ 65535 ∧ (1 ≤ t.cardCount ∧ t.cardCount ≤ 15) ∧ t.serialsLow ≤ 9999
    ∧ t.tubeLow10 ≤ 255 ∧ t.tubeLow20 ≤ 255 ∧ t.tubeLow50 ≤ 255 ∧ t.tubeLow100 ≤ 255
    ∧ (1 ≤ t.mergeShare ∧ t.mergeShare ≤ 8) ∧ (1 ≤ t.journalL1 ∧ t.journalL1 ≤ 2039)
    ∧ (2 ≤ t.journalL2 ∧ t.journalL2 ≤ 2040) ∧ t.journalL1 < t.journalL2

/-- R38, R41, R44, R50: the clock's values lie in their ranges; a CLOCK SET in progress has 1 to 15 ticks left, the last of them inside
the day; one waits only while another is in progress, with its fields, where it has passed its checks, in their ranges. -/
def ClockSafe (s : State) : Prop :=
  s.clock.second ≤ 59 ∧ s.clock.minute ≤ 1439 ∧ s.clock.day ≤ 65535 ∧ s.clock.weekday ≤ 6
    ∧ (∀ m, s.clock.highMark = some m → m ≤ 1439)
    ∧ (∀ m, s.clock.move = some m →
        s.clock.valid = true ∧ 1 ≤ m.left ∧ m.left ≤ 15 ∧ s.clock.minute + m.left ≤ 1439 ∧ m.second ≤ 59)
    ∧ (s.clock.move = none → s.clock.waiting = [])
    ∧ (∀ w ∈ s.clock.waiting, ∀ f, w.2 = some f → f.day ≤ 65535 ∧ f.weekday ≤ 6 ∧ f.minute ≤ 1439 ∧ f.second ≤ 59)

/-- R60 to R62, R72, R75, R200: the holdover list holds at most 4 entries; the stop request list at most 8, no two for the same service
and day, each for a service of either list that is neither DEPARTED, LAPSED nor CANCELLED; the report timer runs exactly while the
list holds a LODGED entry. Neither bank has two services, and neither list of entries two entries, for one id; a running entry is of
the clock's day and a holdover entry of another; without CLOCK_VALID both lists are empty. -/
def TimetableSafe (s : State) : Prop :=
  s.tt.holdover.length ≤ 4 ∧ s.tt.stopReqs.length ≤ 8
    ∧ s.tt.stopReqs.Pairwise (fun a b => ¬ (a.id = b.id ∧ a.day = b.day))
    ∧ (∀ q ∈ s.tt.stopReqs, ∃ e ∈ s.tt.holdover ++ s.tt.entries, e.svc.id = q.id ∧ e.day = q.day
        ∧ e.state ≠ .departed ∧ e.state ≠ .lapsed ∧ e.state ≠ .cancelled)
    ∧ s.cond.reportTimer.isSome = hasLodged s ∧ s.tt.unknownNotes ≤ 65535
    ∧ (∀ b, s.tt.running = some b ∨ s.tt.standing = some b → (b.services.map Service.id).Nodup)
    ∧ (s.tt.entries.map fun e => e.svc.id).Nodup ∧ (s.tt.holdover.map fun e => e.svc.id).Nodup
    ∧ (∀ e ∈ s.tt.entries, e.day = s.clock.day) ∧ (∀ e ∈ s.tt.holdover, e.day ≠ s.clock.day)
    ∧ (s.clock.valid = false → s.tt.entries = [] ∧ s.tt.holdover = [])

/-- R84, R86, R87, R88, R105, R109: the board and the panel port. There are six panel records and four banner texts; at most 12 windows
stand in rising order of number, none above 11, each over rows of the store, no two on one row of one panel and no two LIVE ones over one
row of the store; the store has 512 rows; the round-robin place is a panel. -/
def BoardSafe (s : State) : Prop :=
  s.panels.recs.length = 6 ∧ 1 ≤ s.panels.place ∧ s.panels.place ≤ 6 ∧ s.board.banners.length = 4
    ∧ s.board.windows.Pairwise (fun a b => a.number < b.number)
    ∧ (∀ w ∈ s.board.windows, w.number ≤ 11 ∧ 1 ≤ w.length ∧ w.base + w.length ≤ 512)
    ∧ s.board.windows.Pairwise (fun a b =>
        (a.panel = b.panel → a.first + a.length ≤ b.first ∨ b.first + b.length ≤ a.first)
        ∧ (a.live.isSome = true → b.live.isSome = true → a.base + a.length ≤ b.base ∨ b.base + b.length ≤ a.base))
    ∧ (∀ p ∈ s.board.store, p.1 < 512)

/-- R84, R173: the two addressed buffers are in canonical form. -/
def BuffersSafe (s : State) : Prop := Memory.wf spaces s.board.store = true ∧ Memory.wf none s.ret.ring = true

/-- R163, R167, R169, R170: the tube counts lie within their capacities; the deny list holds at most 2048 tokens in ascending order;
its age stops at 65,535; the spend tally holds at most 64 entries, no two for one token. -/
def PaymentSafe (s : State) : Prop :=
  s.ret.tubes.c10 ≤ 150 ∧ s.ret.tubes.c20 ≤ 120 ∧ s.ret.tubes.c50 ≤ 100 ∧ s.ret.tubes.c100 ≤ 80
    ∧ s.pay.deny.length ≤ 2048 ∧ s.pay.deny.Pairwise (· < ·) ∧ (∀ t ∈ s.pay.deny, t < 2 ^ 64)
    ∧ s.pay.denyAge ≤ 65535 ∧ s.pay.tally.length ≤ 64
    ∧ (s.pay.tally.map TallyEntry.token).Nodup

/-- R140, R142, R145, R147, R156: each sale timer runs exactly in its states; a sale in SELECTING, QUOTED or PAYING has SALES_OPEN
present; the escrow holds at most 16 coins of the five values, and none outside PAYING and ISSUING; while PAYING, paid is its value. -/
def SaleSafe (s : State) : Prop :=
  s.sale.inactivity.isSome = saleOpen s ∧ s.sale.print.isSome = decide (s.sale.state = .issuing)
    ∧ s.sale.payout.isSome = decide (s.sale.state = .settling)
    ∧ (saleOpen s = true → s.cond.salesOpen = true)
    ∧ s.pay.escrow.length ≤ 16 ∧ (∀ v ∈ s.pay.escrow, coinValue v = true)
    ∧ (s.sale.state ≠ .paying → s.sale.state ≠ .issuing → s.pay.escrow = [])
    ∧ (s.sale.state = .paying → s.sale.paid = s.pay.escrow.sum)
    ∧ (s.sale.state = .issuing → s.sale.medium = some .coin ∨ s.pay.escrow = [])

/-- R178, R184: the journal. The ring is in canonical form and holds at most 2048 records; while the part is powered, the ack point,
the send point and the high point stand in this order, none above the open record or the next sequence; at most 24 records are
outstanding; the fill is at most 2048; a reservation is held in PAYING, and never beside an open record. -/
def JournalSafe (s : State) : Prop :=
  Memory.wf none s.ret.ring = true ∧ 1 ≤ s.ret.ackPoint ∧ s.ret.ackPoint ≤ s.ret.nextSeq ∧ storedCount s ≤ 2048
    ∧ (s.powered = true →
        s.ret.ackPoint ≤ s.jrn.sendPoint ∧ s.jrn.sendPoint ≤ s.jrn.highPoint ∧ s.jrn.highPoint ≤ uploadLimit s
          ∧ outstandingCount s ≤ 24 ∧ fill s ≤ 2048
          ∧ (s.sale.state = .paying → s.jrn.reserved = true ∧ s.sale.reserved = true)
          ∧ (s.jrn.reserved = true → openRec s = none))

/-- R182, R183: the serial blocks rise: no standby block beside an empty current block, the last serial taken below the current
block, the current block below the standby block. -/
def SerialsSafe (r : Retained) : Prop :=
  (r.current.count = 0 → r.standby.count = 0) ∧ (r.current.count ≠ 0 → r.lastSerial < r.current.first)
    ∧ (r.standby.count ≠ 0 → r.current.first + r.current.count ≤ r.standby.first)

/-- R155, R156, R163, R165, R169, R179, R182, R195: while the part is powered, every flag that a rule derives continually stands as
the rule derives it. -/
def FlagsDerived (s : State) : Prop :=
  s.powered = true →
    s.jrn.l1 = l1Now s ∧ s.jrn.l2 = l2Now s ∧ s.jrn.noSerials = noSerialsNow s ∧ s.jrn.serialsLow = serialsLowNow s
      ∧ s.pay.low10 = decide (s.ret.tubes.c10 ≤ s.settings.tubeLow10)
      ∧ s.pay.low20 = decide (s.ret.tubes.c20 ≤ s.settings.tubeLow20)
      ∧ s.pay.low50 = decide (s.ret.tubes.c50 ≤ s.settings.tubeLow50)
      ∧ s.pay.low100 = decide (s.ret.tubes.c100 ≤ s.settings.tubeLow100)
      ∧ s.pay.denyOld = denyOldNow s ∧ s.pay.coinAvail = coinAvailNow s ∧ s.pay.cardAvail = cardAvailNow s
      ∧ s.cond.salesOpen = salesOpenNow s ∧ s.pay.accept = acceptNow s ∧ s.pay.armed = armedNow s

/-- R155, R156, R163, R165, R169, R178, R179, R182, R195: what each derived flag is derived from. -/
def ConditionsSpelled (s : State) : Prop :=
  let filled := s.ret.nextSeq - s.ret.ackPoint + if s.jrn.reserved then 1 else 0
  let serials := s.ret.current.count + s.ret.standby.count
  let total := match s.sale.quote with | some q => q.total | none => 0
  fill s = filled ∧ l1Now s = decide (s.settings.journalL1 ≤ filled) ∧ l2Now s = decide (s.settings.journalL2 ≤ filled)
    ∧ noSerialsNow s = decide (serials = 0) ∧ serialsLowNow s = decide (serials ≤ s.settings.serialsLow)
    ∧ denyOldNow s = decide (60 * s.settings.denyAgeLimit ≤ s.pay.denyAge)
    ∧ coinAvailNow s = (s.cond.ctrl.getLsbD 2 && s.pay.coinReady)
    ∧ cardAvailNow s = (s.cond.ctrl.getLsbD 3 && !s.pay.denyOld && s.pay.cardReady)
    ∧ (salesOpenNow s = true ↔ s.cond.ctrl.getLsbD 0 = true ∧ s.cond.ctrl.getLsbD 1 = false ∧ s.clock.valid = true ∧ s.fares ≠ none
        ∧ s.jrn.l2 = false ∧ s.jrn.noSerials = false ∧ s.printerFault = false ∧ (s.pay.coinAvail = true ∨ s.pay.cardAvail = true))
    ∧ (acceptNow s = true ↔ s.sale.state = .paying ∧ s.pay.coinAvail = true ∧ s.pay.escrow.length < 16 ∧ s.pay.escrow.sum < total)
    ∧ (armedNow s = true ↔ s.sale.state = .paying ∧ s.pay.cardAvail = true ∧ total ≠ 0)
    ∧ saleTotal s = total

/-! ### The terms in which claims about frames are stated -/

/-- R6: a frame that passes every test of the frame check at a port that takes frames of one direction. -/
def ValidFrame (dir : FrameDir) (chars : List Byte) : Prop :=
  5 ≤ chars.length ∧ chars.length ≤ 205 ∧ (chars.getD 2 0).toNat ≤ 200 ∧ chars.length = 5 + (chars.getD 2 0).toNat
    ∧ beNat (chars.drop (chars.length - 2)) = (crc16 (chars.take (chars.length - 2))).toNat
    ∧ ((chars.getD 0 0).toNat < 128 ↔ dir = .outbound)

/-- Table 12-2: the command that a consumed frame of a kind is; a frame of any other kind is none (R15). -/
def frameCommand (kind : Byte) (to_ : Dest) (body : List Byte) : Option Instr :=
  match kind.toNat with
  | 0x01 => some (.loadBegin to_ body)
  | 0x02 => some (.loadSegment to_ body)
  | 0x03 => some (.loadEnd to_ body)
  | 0x04 => some (.setting to_ body)
  | 0x05 => some (.clockSet to_ body)
  | 0x06 => some (.runningUpdate to_ body)
  | 0x07 => some (.rowWrite to_ body)
  | 0x08 => some (.panelMode to_ body)
  | 0x09 => some (.flags to_ body)
  | 0x0A => some (.noticeClear to_ body)
  | 0x0B => some (.noticeMask to_ body)
  | 0x0C => some (.faultClear to_ body)
  | 0x0D => some (.statusPoll to_ body)
  | 0x0E => some (.tubeSet to_ body)
  | 0x0F => some (.denyAdd to_ body)
  | 0x10 => some (.denyConfirm to_ body)
  | 0x11 => some (.serialBlock to_ body)
  | 0x12 => some (.journalAck to_ body)
  | 0x13 => some (.restart to_ body)
  | _ => none

/-- R85: panel row `i` of panel `p` shows store row `r` through a shown window. -/
def ShowsRow (s : State) (p i r : Nat) : Prop :=
  ∃ w ∈ s.board.windows, w.shown = true ∧ w.panel = p ∧ w.base ≤ r ∧ r < w.base + w.length ∧ i = w.first + (r - w.base)

/-- R50: the cadence high mark after a tick at a minute: the minute, unless the mark already stands above it. -/
def highMarkAfter (mark : Option Nat) (minute : Nat) : Option Nat :=
  match mark with
  | some h => some (max h minute)
  | none => some minute

/-- The expiry that the next second of the time base brings: the timer it belongs to runs, and has its limit one second away (R17, R26,
R111, R140, R148, R150, R185). -/
def DueNext (s : State) (c : Instr) : Prop :=
  (c = .linkSilenceExpiry ∧ ∃ n, s.line.linkTimer = some n ∧ s.settings.linkSilence * 60 ≤ n + 1)
    ∨ (c = .ackTimerExpiry ∧ ∃ n, s.jrn.ackTimer = some n ∧ s.settings.ackWindow ≤ n + 1)
    ∨ (c = .inactivityExpiry ∧ ∃ n, s.sale.inactivity = some n ∧ s.settings.inactivity ≤ n + 1)
    ∨ (c = .printTimerExpiry ∧ ∃ n, s.sale.print = some n ∧ 20 ≤ n + 1)
    ∨ (c = .payoutTimerExpiry ∧ ∃ n, s.sale.payout = some n ∧ 15 ≤ n + 1)
    ∨ (∃ k a, c = .loadSilenceExpiry k ∧ staging s k = some a ∧ 300 ≤ a.silence + 1)
    ∨ (∃ p r n, c = .pingTimerExpiry p ∧ panelRec s p = some r ∧ r.pingTimer = some n ∧ 10 ≤ n + 1)

/-- R70, R71: an entry of the holdover list (`held`) or of the running table after the tick at a minute. -/
def entryAfterTick (s : State) (held : Bool) (minute : Nat) (e : RunEntry) : RunEntry :=
  let age := min (e.noteAge + 1) 255
  let aged : RunEntry :=
    if e.state = .running ∧ s.settings.staleWindow ≤ age then { e with noteAge := age, state := .stale, last := none }
    else { e with noteAge := age }
  if (aged.state = .planned ∨ aged.state = .running ∨ aged.state = .stale ∨ aged.state = .arriving)
      ∧ expectedOf held e + s.settings.lapseWindow ≤ minute then
    { aged with state := .lapsed, last := none }
  else aged

/-- R62: the running entries built fresh from a bank, for a day and a weekday, with HOLIDAY as given. -/
def freshRunning (b : Option Bank) (holiday : Bool) (day weekday : Nat) : List RunEntry :=
  match b with
  | none => []
  | some b =>
    (b.services.filter fun v => if holiday then v.holiday else v.days.getLsbD weekday).map fun v =>
      { svc := v, day := day, state := .planned, delay := 0, platform := v.platform, stopOrdered := false, noteAge := 0
        last := none }

/-- R75, R151 step 1: the outcome of the stop request of a sale that completes, the state the console is told, and the stop request list
after it. -/
def saleStop (s : State) : StopOutcome × Option ReqState × List StopReq :=
  match s.sale.service with
  | some (.train id day) =>
    match findEntry s id day with
    | none => (if s.sale.request then .notRequestable else .none, none, s.tt.stopReqs)
    | some (_, e) =>
      if e.svc.request = false then (.none, none, s.tt.stopReqs)
      else if e.state = .departed ∨ e.state = .cancelled ∨ e.state = .lapsed then (.notRequestable, none, s.tt.stopReqs)
      else
        match s.tt.stopReqs.find? fun q => decide (q.id = id ∧ q.day = day) with
        | some q => (.merged, some q.state, s.tt.stopReqs)
        | none =>
          if 8 ≤ s.tt.stopReqs.length then (.listFull, none, s.tt.stopReqs)
          else
            let state : ReqState := if e.stopOrdered then .ordered else .lodged
            (.lodged, some state, s.tt.stopReqs ++ [⟨id, day, state, s.clock.minute, .sale⟩])
  | some .any | none => (.none, none, s.tt.stopReqs)

/-! ### What several statements say of a block -/

/-- R181 steps 1, 2 and 4, R189 to R191: the retained store after its open record, where there is one, has closed as `final`, and a
pending day close has been settled; `reserved` tells whether a reservation is held. Figures stop at their greatest value (log
entry 19). -/
def storeClosed (r : Retained) (reserved : Bool) (final : Option SaleRec) : Retained :=
  let totals : Totals := match final with
    | none => r.totals
    | some f =>
      match f.kind, f.medium with
      | .sale, .coin => { r.totals with
          sales := min (r.totals.sales + 1) 65535, coin := min (r.totals.coin + f.amount) 4294967295 }
      | .sale, .card => { r.totals with
          sales := min (r.totals.sales + 1) 65535, card := min (r.totals.card + f.amount) 4294967295 }
      | .void, _ => { r.totals with voids := min (r.totals.voids + 1) 65535 }
      | .opened, _ => r.totals
  let ring := match final with
    | none => r.ring
    | some f => Memory.write none ((r.nextSeq - 1 - 1) % 2048) (some (.ticket f)) r.ring
  match r.pendingClose with
  | none => { r with ring := ring, totals := totals }
  | some p =>
    if r.nextSeq - r.ackPoint + (if reserved then 1 else 0) < 2048 ∧ r.nextSeq < 4294967295 then
      { r with
        ring := Memory.write none ((r.nextSeq - 1) % 2048) (some (.dayClose r.nextSeq p)) ring
        nextSeq := r.nextSeq + 1, totals := totals, pendingClose := none }
    else
      { r with
        ring := ring, pendingClose := none
        totals :=
          { sales := min (totals.sales + p.totals.sales) 65535
            coin := min (totals.coin + p.totals.coin) 4294967295
            card := min (totals.card + p.totals.card) 4294967295
            voids := min (totals.voids + p.totals.voids) 65535
            carried := min (totals.carried + (1 + p.totals.carried)) 65535 } }

/-- R190 step 1, R191 step 2: how the part itself closes an open record: a recovered SALE when it is printed, otherwise a VOID. -/
def selfClosed (why : VoidReason) (r : SaleRec) : SaleRec :=
  if r.printed then { r with kind := .sale, recovered := true, changeGiven := 0, reason := .none }
  else { r with kind := .void, recovered := false, changeGiven := 0, changeOwed := 0, reason := why }

/-- R85, R108: the panel records of `t` are those of `s`, but that the panel rows of `touched` have a send mark, and that the effective mode
of each present panel of `judged` has been evaluated, in `t`: a change sets mode pending, and a change from OFF marks every row. -/
def PanelsFollow (s t : State) (judged : Nat → Bool) (touched : Nat → Nat → Prop) : Prop :=
  t.panels = { s.panels with recs := t.panels.recs } ∧ t.panels.recs.length = s.panels.recs.length
    ∧ ∀ (i : Nat) (rec : PanelRec), s.panels.recs[i]? = some rec → ∃ rec', t.panels.recs[i]? = some rec'
      ∧ (let p := i + 1
         let eff := effectiveMode t p rec.mode
         let turns := judged p && rec.present && decide (eff ≠ rec.eff)
         rec' = { rec with
             marks := rec'.marks, eff := if turns then eff else rec.eff, modePending := turns || rec.modePending }
         ∧ rec'.marks.length = rec.marks.length
         ∧ ∀ n, n < rec.marks.length →
             (rec'.marks[n]? = some true ↔ rec.marks[n]? = some true ∨ touched p n ∨ (turns = true ∧ rec.eff = .off)))

/-- R139, R160: `t` is `s` with its sale abandoned, in the steps of the rule. That RETURN comes before ACCEPT(off), and ACCEPT(off) before
DISARM, is the model's choice (log entry 45). -/
def Abandoned (s : State) (why : CloseReason) (t : State) : Prop :=
  t.out = s.out ++ (if s.sale.state = .paying then
        (if s.pay.escrow = [] then [] else [.coin .ret]) ++ (if s.pay.accept then [.coin (.accept false)] else [])
          ++ (if s.pay.armed then [.card .disarm] else [])
      else []) ++ [.console (.closed why)]
  ∧ t.jrn.reserved = (if s.sale.reserved then false else s.jrn.reserved)
  ∧ (s.sale.state = .paying → t.pay = { s.pay with escrow := [], plan := none, accept := false, armed := false })
  ∧ (s.sale.state ≠ .paying → t.pay = s.pay)
  ∧ t = { s with
      sale := Sale.atRest, out := t.out, pay := t.pay
      jrn := { s.jrn with reserved := t.jrn.reserved, l1 := t.jrn.l1, l2 := t.jrn.l2 }
      cond := { s.cond with pending := t.cond.pending, salesOpen := t.cond.salesOpen }
      line := { s.line with ownQ := t.line.ownQ, ownDrops := t.line.ownDrops }
      board := { s.board with windows := t.board.windows }
      panels := { s.panels with recs := t.panels.recs } }

/-- R145, R146, R180, R182, Table 8-6, Table 10-2: `t` has begun to issue the sale of `s`: `paid` is the amount in the context, the next
serial is taken, the open record written, and `ticket` is the ticket. That its train is looked up when PRINT is sent, and printed with
no time where its id is no longer held, is the model's reading (DEDUCED, log entry 35). -/
def IssueBegins (s : State) (q : Quote) (dest : Nat) (p : Product) (n : Party) (paid : Nat) (m : Medium) (token : Option Nat)
    (planned : Nat) (ticket : Ticket) (t : State) : Prop :=
  let serial := s.ret.current.first
  let handover := s.ret.current.count = 1 ∧ s.ret.standby.count ≠ 0
  t.sale = { s.sale with
      paid := paid, medium := some m, token := token, planned := planned, inactivity := none, state := .issuing
      reserved := false, serial := some serial, print := some 0 }
  ∧ t.ret = { s.ret with
      lastSerial := serial
      current := if handover then s.ret.standby else ⟨serial + 1, s.ret.current.count - 1⟩
      standby := if handover then ⟨0, 0⟩ else s.ret.standby
      nextSeq := s.ret.nextSeq + 1
      ring := Memory.write none ((s.ret.nextSeq - 1) % 2048)
        (some (.ticket
          { seq := s.ret.nextSeq, kind := .opened, printed := false, recovered := false, day := s.clock.day
            minute := s.clock.minute, serial := serial, dest := dest, service := s.sale.service.getD .any, product := p
            band := q.band, party := n, adult := q.adult.getD 0, child := q.child.getD 0, conc := q.conc.getD 0
            amount := q.total, medium := m, token := token.getD 0, changeGiven := 0, changeOwed := planned
            version := q.version, reason := .none }))
        s.ret.ring }
  ∧ t.jrn.reserved = false ∧ t.jrn.noSerials = noSerialsNow t ∧ t.jrn.serialsLow = serialsLowNow t
  ∧ (handover → t.cond.pending.getLsbD 6 = true)
  ∧ ticket =
      { serial := serial, day := s.clock.day, time := ((s.clock.minute + 180) / 60 % 24, (s.clock.minute + 180) % 60)
        fromName := q.homeName, fromCode := q.homeCode, toName := q.destName, toCode := q.destCode
        train := (match s.sale.service with
          | some (.train id day) =>
            some ((findEntry s id day).map fun e => ((e.2.svc.dep + 180) / 60 % 24, (e.2.svc.dep + 180) % 60), id)
          | some .any | none => none)
        product := p, band := q.band, party := n
        adult := if 1 ≤ n.na then q.adult else none, child := if 1 ≤ n.nc then q.child else none
        conc := if 1 ≤ n.nq then q.conc else none
        total := q.total, medium := m, version := q.version }

/-- R33, R36, Tables 1-5 and 2-7: the ranges of the settings, their places, and their defaults. -/
def SettingsTable (t : Settings) : Prop :=
  (List.range' 1 20).map settingRange =
      [some (1, 30), some (5, 120), some (20, 180), some (2, 30), some (1, 60), some (0, 60), some (0, 120), some (1, 60), some (1, 72),
        some (0, 65535), some (0, 65535), some (1, 15), some (0, 9999), some (0, 255), some (0, 255), some (0, 255), some (0, 255),
        some (1, 8), some (1, 2039), some (2, 2040)]
    ∧ (∀ n, n = 0 ∨ 20 < n → settingRange n = none)
    ∧ (List.range' 1 20).map (settingValue t) =
      [t.linkSilence, t.ackWindow, t.inactivity, t.staleWindow, t.lapseWindow, t.cancelDisplay, t.wakeLead, t.reportEvery, t.denyAgeLimit,
        t.cardFloor, t.cardDaily, t.cardCount, t.serialsLow, t.tubeLow10, t.tubeLow20, t.tubeLow50, t.tubeLow100, t.mergeShare,
        t.journalL1, t.journalL2]
    ∧ ∀ p : Fin 8, (List.range' 1 20).map (settingValue (Settings.default p)) =
        [3, 20, 60, 8, 10, 30, 20, 5, 36, 3000, 6000, 6, 50, 5, 5, 5, 5, 4]
          ++ (match p with
              | 0 => [1024, 1536] | 1 => [1280, 1664] | 2 => [1536, 1792] | 3 => [1536, 1920] | 4 => [1792, 1920] | 5 => [1792, 1984]
              | 6 => [1920, 2000] | 7 => [512, 1024])

/-- R28, R206, Table 12-4: the layout of each table record, by the type byte that opens it; a record of another type, or one that its
count or length byte takes past the end of its segment, is broken; the records of a segment are read one after another, and those of
the segments joined in index order. -/
def RecordsRead (bytes rest : List Byte) : Prop :=
  let one (i : Nat) : Nat := (bytes.getD i 0).toNat
  let two (i : Nat) : Nat := beNat ((bytes.drop i).take 2)
  (bytes.length = 12 → one 0 = 1 →
      (2 * one 11 ≤ rest.length → readService (bytes ++ rest) = some
        (⟨two 1, bytes.getD 3 0, one 4, two 5, two 7, bytes.getD 9 0, bytes.getD 10 0,
          (List.range (one 11)).map fun i => ((rest.getD (2 * i) 0).toNat, (rest.getD (2 * i + 1) 0).toNat)⟩, rest.drop (2 * one 11)))
      ∧ (rest.length < 2 * one 11 → readService (bytes ++ rest) = none))
    ∧ (one 0 ≠ 1 ∨ bytes.length < 12 → readService bytes = none)
    ∧ (bytes.length = 5 → one 0 = 1 → readFare (bytes ++ rest) = some (.header (one 1) (one 2) (two 3), rest))
    ∧ (bytes.length = 16 → one 0 = 2 → readFare (bytes ++ rest) = some
        (.group (one 1) (two 2) (two 4) (two 6) (two 8) (two 10) (one 12) (one 13) (bytes.getD 14 0) (one 15), rest))
    ∧ (bytes.length = 6 → one 0 = 3 → readFare (bytes ++ rest) = some (.band (bytes.getD 1 0) (two 2) (two 4), rest))
    ∧ (bytes.length = 8 + one 1 → one 0 = 4 → readFare (bytes ++ rest) = some
        (.stop (((bytes.drop 2).take (one 1)).map BitVec.toNat) (((bytes.drop (2 + one 1)).take 3).map BitVec.toNat)
          (two (5 + one 1)) (bytes.getD (7 + one 1) 0), rest))
    ∧ ((one 0 = 0 ∨ 4 < one 0) ∨ (one 0 = 1 ∧ bytes.length < 5) ∨ (one 0 = 2 ∧ bytes.length < 16) ∨ (one 0 = 3 ∧ bytes.length < 6)
        ∨ (one 0 = 4 ∧ bytes.length < 8 + one 1) → readFare bytes = none)
    ∧ (bytes.length = 4 → one 0 = 1 → readWindow (bytes ++ rest) = some (.panel (one 1) (bytes.getD 2 0) (one 3), rest))
    ∧ (bytes.length = 13 → one 0 = 2 → readWindow (bytes ++ rest) = some
        (.window (one 1) (one 2) (one 3) (two 4) (one 6) (bytes.getD 7 0) (bytes.getD 8 0) (bytes.getD 9 0) (bytes.getD 10 0)
          (bytes.getD 11 0) (bytes.getD 12 0), rest))
    ∧ (bytes.length = 82 → one 0 = 3 → readWindow (bytes ++ rest) = some (.banner (one 1) (bytes.drop 2), rest))
    ∧ ((one 0 = 0 ∨ 3 < one 0) ∨ (one 0 = 1 ∧ bytes.length < 4) ∨ (one 0 = 2 ∧ bytes.length < 13) ∨ (one 0 = 3 ∧ bytes.length < 82) →
        readWindow bytes = none)
    ∧ (bytes.length = 14 → one 0 = 1 → readCadence (bytes ++ rest) = some
        (⟨bytes.getD 1 0, bytes.getD 2 0, two 3, two 5, bytes.getD 7 0, bytes.getD 8 0, bytes.getD 9 0, bytes.drop 10⟩, rest))
    ∧ (one 0 ≠ 1 ∨ bytes.length < 14 → readCadence bytes = none)
    ∧ (bytes.length = 9 → one 0 = 1 → readToken (bytes ++ rest) = some (beNat (bytes.drop 1), rest))
    ∧ (one 0 ≠ 1 ∨ bytes.length < 9 → readToken bytes = none)
    ∧ ∀ (α : Type) (read : List Byte → Option (α × List Byte)) (segments : List (List Byte)),
        (∀ b r tail, read b = some (r, tail) → tail.length < b.length) →
        assemble read [] = some [] ∧ assemble read ([] :: segments) = assemble read segments
        ∧ (bytes ≠ [] → read bytes = none → assemble read (bytes :: segments) = none)
        ∧ ∀ r tail, bytes ≠ [] → read bytes = some (r, tail) →
            assemble read (bytes :: segments) = (assemble read (tail :: segments)).map (r :: ·)

/-- R203: a field of some bytes at an offset holds a value, high byte first; a value that is too great is cut to the field. -/
def FieldHolds (bytes : List Byte) (offset size value : Nat) : Prop :=
  beNat ((bytes.drop offset).take size) = value % 256 ^ size

/-- R208, Table 12-7: the fields of a journal record at their offsets. The bits of the marks byte that the table does not number are 0
(the model's choice, log entry 44). -/
def RecordLaidOut (r : JRecord) (bytes : List Byte) : Prop :=
  let field := FieldHolds bytes
  match r with
  | .ticket r =>
    field 0 4 r.seq ∧ field 4 1 (match r.kind with | .opened => 0 | .sale => 1 | .void => 2)
      ∧ field 5 1 ((if r.printed then 1 else 0) + if r.recovered then 2 else 0)
      ∧ field 6 2 r.day ∧ field 8 2 r.minute ∧ field 10 4 r.serial ∧ field 14 1 r.dest
      ∧ field 15 2 (match r.service with | .any => 65535 | .train id _ => id)
      ∧ field 17 2 (match r.service with | .any => 0 | .train _ day => day)
      ∧ field 19 1 (match r.product with | .single => 0 | .ret => 1) ∧ field 20 1 (match r.band with | .offPeak => 0 | .peak => 1)
      ∧ field 21 1 r.party.na ∧ field 22 1 r.party.nc ∧ field 23 1 r.party.nq
      ∧ field 24 2 r.adult ∧ field 26 2 r.child ∧ field 28 2 r.conc ∧ field 30 4 r.amount
      ∧ field 34 1 (match r.medium with | .coin => 0 | .card => 1) ∧ field 35 8 r.token
      ∧ field 43 1 r.changeGiven ∧ field 44 1 r.changeOwed ∧ field 45 2 r.version
      ∧ field 47 1 (match r.reason with
          | .none => 0 | .printFault => 1 | .printTimeout => 2 | .powerLoss => 3 | .restart => 4)
  | .dayClose seq d =>
    field 0 4 seq ∧ field 4 1 3 ∧ field 5 1 0 ∧ field 6 2 d.day ∧ field 8 2 d.minute ∧ field 10 2 d.totals.sales
      ∧ field 12 4 d.totals.coin ∧ field 16 4 d.totals.card ∧ field 20 2 d.totals.voids ∧ field 22 2 d.totals.carried
      ∧ bytes.drop 24 = List.replicate 24 0

/-- R210, Tables 12-6, 12-8 and 12-9: the fields of a halt report at their offsets. The bits that the tables do not number are 0 (the
model's choice, log entry 44). Table 11-5: a cadence table of no entries, and a window table without panels, windows and banner texts
other than spaces, have version 0 (that a table of banner texts alone is not empty is the model's reading, log entry 43). -/
def ReportLaidOut (why : ReportReason) (s : State) (bytes : List Byte) : Prop :=
  let field := FieldHolds bytes
  let version (b : Option Bank) : Nat := match b with | some b => b.version | none => 0
  let word := beNat ((bytes.drop 6).take 4)
  let one (b : Bool) : Nat := if b then 1 else 0
  let modeAs (m : PanelMode) : Nat := match m with | .off => 0 | .dim => 1 | .on => 2
  field 0 1 (match why with | .poll => 1 | .alert => 2 | .stop => 3 | .periodic => 4 | .cadence => 5)
    ∧ field 1 1 s.line.straps.haltNumber.val ∧ field 2 2 s.clock.day ∧ field 4 2 s.clock.minute
    ∧ (List.range 32).map word.testBit =
        (List.range 13).map s.cond.ctrl.getLsbD ++ [false, false, false]
          ++ [s.clock.valid, s.clock.jumped, s.line.linkLost, s.jrn.l1, s.jrn.l2, s.jrn.noSerials, s.pay.low10, s.printerFault,
            s.pay.denyOld, s.tt.expired, s.cond.faultRec.isSome, decide (s.sale.state ≠ .idle), s.cond.salesOpen]
          ++ [false, false, false]
    ∧ field 10 1 (one s.pay.coinAvail + 2 * one s.pay.cardAvail)
    ∧ field 11 2 s.cond.pending.toNat ∧ field 13 2 s.cond.masks.toNat
    ∧ field 15 2 (version s.tt.running) ∧ field 17 2 (version s.tt.standing)
    ∧ field 19 2 (match s.fares with | some f => f.version | none => 0)
    ∧ field 21 2 (if s.board.panels = [] ∧ s.board.windows = [] ∧ ∀ row ∈ s.board.banners, row = spaces then 0 else s.board.version)
    ∧ field 23 2 (if s.clock.cadence = [] then 0 else s.clock.cadenceVersion)
    ∧ field 25 2 s.pay.deny.length ∧ field 27 2 s.pay.denyAge
    ∧ field 29 4 s.ret.nextSeq ∧ field 33 4 s.ret.ackPoint ∧ field 37 2 (s.ret.nextSeq - s.ret.ackPoint)
    ∧ field 39 1 (one s.jrn.reserved) ∧ field 40 2 (s.ret.nextSeq - s.ret.ackPoint + one s.jrn.reserved)
    ∧ field 42 4 (s.ret.current.count + s.ret.standby.count) ∧ field 46 4 s.ret.lastSerial
    ∧ field 50 1 s.ret.tubes.c10 ∧ field 51 1 s.ret.tubes.c20 ∧ field 52 1 s.ret.tubes.c50 ∧ field 53 1 s.ret.tubes.c100
    ∧ (∀ (i : Nat) (r : PanelRec), s.panels.recs[i]? = some r →
        field (54 + 2 * i) 1 (one r.present + 2 * one r.silent + 4 * (r.miss % 4))
          ∧ field (55 + 2 * i) 1 (modeAs r.mode + 4 * modeAs r.eff))
    ∧ field 66 2 s.line.checkErrors ∧ field 68 2 s.line.transitDrops ∧ field 70 2 s.line.ownDrops ∧ field 72 2 s.tt.unknownNotes
    ∧ (match s.cond.faultRec with
       | none => (bytes.drop 74).take 10 = List.replicate 10 0
       | some f =>
         field 74 1 1 ∧ field 75 1 (match f.cause with | .absent => 1 | .beyondLength => 2 | .outOfRange => 4)
           ∧ field 76 1 (match f.origin with | .fare => 1 | .board => 2 | .offer => 3 | .cadence => 4)
           ∧ field 77 1 (match f.origin with | .cadence => 4 | _ => 2) ∧ field 78 1 f.index
           ∧ field 79 2 f.day ∧ field 81 2 f.minute ∧ field 83 1 f.later)
    ∧ field 84 1 s.tt.stopReqs.length
    ∧ ∀ (j : Nat) (q : StopReq), s.tt.stopReqs[j]? = some q →
        field (85 + 8 * j) 2 q.id ∧ field (87 + 8 * j) 2 q.day ∧ field (89 + 8 * j) 1 (match q.state with | .lodged => 0 | .ordered => 1)
          ∧ field (90 + 8 * j) 2 q.minute ∧ field (92 + 8 * j) 1 (match q.source with | .sale => 0 | .button => 1)

/-- R161 step 1: where the coins of the escrow go in their order, and the tube counts after them: a coin goes to its own tube while that
is below its capacity with the coins before it, and to the cash box otherwise, as a coin of no tube does. -/
def CoinsDropped (tubes : Tubes) (coins : List Nat) (dests : List CoinDest) (after : Tubes) : Prop :=
  let own (v : Nat) : Option (Nat × Nat × Nat) :=
    if v = 10 then some (tubes.c10, after.c10, 150) else if v = 20 then some (tubes.c20, after.c20, 120)
    else if v = 50 then some (tubes.c50, after.c50, 100) else if v = 100 then some (tubes.c100, after.c100, 80)
    else none
  dests.length = coins.length
    ∧ (∀ (i v : Nat), coins[i]? = some v →
        dests[i]? = some (match own v with
          | some (before, _, cap) => if before + (coins.take i).count v < cap then .tube v else .cashBox
          | none => .cashBox))
    ∧ ∀ v ∈ [10, 20, 50, 100], ∀ x ∈ own v, x.2.1 = max x.1 (min (x.1 + coins.count v) x.2.2)

/-- R170: the spend tally before and after it takes a closed card sale: the token's entry grows; a token without one takes a new entry, and
where 64 entries stand, the one of the earliest last use, and of these the lowest token, is removed for it. -/
def TallyTaken (token amount minute : Nat) (l l' : List TallyEntry) : Prop :=
  let new : TallyEntry := ⟨token, amount, 1, minute⟩
  ((∃ e ∈ l, e.token = token) → l' = l.map fun e =>
      if e.token = token then { e with total := e.total + amount, count := e.count + 1, lastUse := minute } else e)
    ∧ ((∀ e ∈ l, e.token ≠ token) → l.length < 64 → l'.Perm (new :: l))
    ∧ ((∀ e ∈ l, e.token ≠ token) → 64 ≤ l.length →
        ∃ v ∈ l, (∀ e ∈ l, v.lastUse < e.lastUse ∨ (v.lastUse = e.lastUse ∧ v.token ≤ e.token))
          ∧ l'.Perm (new :: l.filter fun e => decide (e.token ≠ v.token)))

/-- Table 4-3, row by row: the state and the delay that a note gives an entry, at a minute and with a lapse window; `none` where the table
says ignored. -/
def noteTable (now lapse : Nat) (held : Bool) (e : RunEntry) (k : NoteKind) (delay : Int) : Option (RunState × Int) :=
  match k with
  | .delay =>
    (match e.state with
     | .planned | .running | .stale => some (.running, delay)
     | .arriving => some (.arriving, delay)
     | .lapsed => if now < expectedOf held { e with delay := delay } + lapse then some (.running, delay) else none
     | .cancelled | .departed => none)
  | .approach => if e.state = .cancelled ∨ e.state = .departed then none else some (.arriving, e.delay)
  | .departed => if e.state = .cancelled ∨ e.state = .departed then none else some (.departed, e.delay)
  | .cancel => if e.state = .cancelled ∨ e.state = .departed then none else some (.cancelled, e.delay)
  | .reinstate => if e.state = .cancelled then some (.planned, 0) else none
  | .platform =>
    (match e.state with
     | .planned | .running | .stale | .arriving => some (e.state, e.delay)
     | .lapsed | .cancelled | .departed => none)

/-! ### The checks of a load, each as its rule lists it -/

/-- R49 check 2, R206: a cadence record with a field out of its range. The sense of an entry without a condition is not examined (the
model's reading, DEDUCED, log entry 32). -/
def BadCadence (r : RawCadence) : Prop :=
  127 < r.weekdays.toNat ∨ 2047 < r.value ∨ 2047 < r.mask ∨ 2 < r.holiday.toNat
    ∨ (r.flag ≠ 0xFF ∧ (1 < r.sense.toNat ∨ 28 < r.flag.toNat ∨ (12 < r.flag.toNat ∧ r.flag.toNat < 16)))
    ∨ r.action.toNat = 0 ∨ 6 < r.action.toNat
    ∨ (r.action.toNat ≤ 2 ∧ (beNat r.operand = 0 ∨ 8192 ≤ beNat r.operand))
    ∨ (r.action.toNat = 3 ∧
        ((r.operand.getD 0 0).toNat = 0 ∨ 6 < (r.operand.getD 0 0).toNat ∨ 2 < (r.operand.getD 1 0).toNat))
    ∨ ((r.action.toNat = 4 ∨ r.action.toNat = 5) ∧ 11 < (r.operand.getD 0 0).toNat)

/-- R60 check 2: a service record with a field out of its range. -/
def BadService (r : RawService) : Prop :=
  r.id = 0 ∨ 65535 ≤ r.id ∨ 1 < r.dir.toNat ∨ r.platform = 0 ∨ 4 < r.platform ∨ 1439 < r.dep
    ∨ (r.arrival ≠ 65535 ∧ (1439 < r.arrival ∨ r.dep < r.arrival)) ∨ 12 < r.calls.length
    ∨ ∃ c ∈ r.calls, 63 < c.1 ∨ c.2 = 0 ∨ 255 < c.2

/-- R117 check 1: more than 64 stop records, or more than 4 band records of WORKDAY or of REST_DAY (log entry 47: no other day type
byte is counted). -/
def FaresOverflow (rs : List RawFare) : Prop :=
  64 < (rs.filter fun | .stop .. => true | _ => false).length
    ∨ 4 < (rs.filter fun | .band t .. => decide (t = 0) | _ => false).length
    ∨ 4 < (rs.filter fun | .band t .. => decide (t = 1) | _ => false).length

/-- R117 checks 2 to 7: the shape, the header, the tariff groups, the bands, the stops and the home stop of a FARES load. -/
def BadFares (rs : List RawFare) : Prop :=
  let headers := rs.filterMap fun | .header h s m => some (h, s, m) | _ => none
  let stops := rs.filterMap fun | .stop n c d g => some (n, c, d, g) | _ => none
  let bands := rs.filterMap fun | .band t a b => some (t, a, b) | _ => none
  let numbers := rs.filterMap fun | .group k .. => some k | _ => none
  headers.length ≠ 1 ∨ numbers.length ≠ 4 ∨ (∃ k, k < 4 ∧ k ∉ numbers) ∨ stops = []
    ∨ (∃ h ∈ headers,
        h.2.1 ∉ [1, 2, 5, 10, 20, 50, 100] ∨ 9999 < h.2.2 ∨ ¬ h.2.1 ∣ h.2.2 ∨ stops.length ≤ h.1
        ∨ (∃ r ∈ rs, match r with
            | .group _ b _ t _ c p q x f =>
              9999 < b ∨ 2000 < t ∨ ¬ h.2.1 ∣ c ∨ p = 0 ∨ 100 < p ∨ q = 0 ∨ 100 < q ∨ 1 < x.toNat ∨ f < 100 ∨ 200 < f
            | _ => False)
        ∨ ∃ x ∈ stops[h.1]?, x.2.2.2 ≠ 0xFF)
    ∨ (∃ b ∈ bands, 1 < b.1.toNat ∨ 1439 < b.2.1 ∨ b.2.2 ≤ b.2.1 ∨ 1440 < b.2.2)
    ∨ ¬ bands.Pairwise (fun a b => a.1 = b.1 → a.2.2 ≤ b.2.1 ∨ b.2.2 ≤ a.2.1)
    ∨ ∃ x ∈ stops, x.1 = [] ∨ 20 < x.1.length ∨ x.2.1.length ≠ 3 ∨ (∃ c ∈ x.1 ++ x.2.1, c < 32 ∨ 126 < c) ∨ 2000 < x.2.2.1
        ∨ (3 < x.2.2.2.toNat ∧ x.2.2.2 ≠ 0xFF) ∨ (x.2.2.2 ≠ 0xFF ∧ x.2.2.1 = 0)

/-- R84, R204: the bytes of cells of which one has a code or an attribute that is not allowed. -/
def BadCells (cells : List Byte) : Prop :=
  ∃ i, 2 * i + 1 < cells.length
    ∧ (let code := (cells.getD (2 * i) 0).toNat
       ¬ ((32 ≤ code ∧ code ≤ 126) ∨ (128 ≤ code ∧ code ≤ 143)) ∨ 2 < (cells.getD (2 * i + 1) 0).toNat)

/-- R88 check 1: more than 6 panel entries or more than 12 window descriptors. -/
def WindowsOverflow (rs : List RawWindow) : Prop :=
  6 < (rs.filter fun | .panel .. => true | _ => false).length ∨ 12 < (rs.filter fun | .window .. => true | _ => false).length

/-- R88 checks 2 to 4: the panel entries, the banner texts and the window descriptors of a WINDOWS load. A direction set is empty where
neither of its two bits is set: the others are not read (the model's choice, log entry 21). A panel record's present byte other than 0 or 1
is not refused, and its reading is free (the model's choice, log entry 11). -/
def BadWindows (rs : List RawWindow) : Prop :=
  let panels := rs.filterMap fun | .panel p y r => some (p, y, r) | _ => none
  let banners := rs.filterMap fun | .banner n c => some (n, c) | _ => none
  let numbers := rs.filterMap fun | .window n .. => some n | _ => none
  (∃ e ∈ panels, e.1 = 0 ∨ 6 < e.1 ∨ e.2.2 = 0 ∨ 16 < e.2.2) ∨ ¬ (panels.map (·.1)).Nodup
    ∨ (∃ b ∈ banners, b.1 = 0 ∨ 4 < b.1 ∨ BadCells b.2) ∨ ¬ (banners.map (·.1)).Nodup
    ∨ ¬ numbers.Nodup
    ∨ ∃ x ∈ rs, match x with
        | .window n p first base length dir key kind platforms dirs _ =>
          11 < n ∨ (¬ ∃ e ∈ panels, e.1 = p ∧ readYesNo e.2.1 = true ∧ first + length ≤ e.2.2)
            ∨ length = 0 ∨ 16 < length ∨ 511 < base ∨ 512 < base + length ∨ 1 < dir.toNat ∨ 1 < key.toNat
            ∨ (key = 1 ∧ (kind = 0 ∨ 4 < kind.toNat)) ∨ platforms = 0 ∨ 15 < platforms.toNat ∨ dirs.toNat % 4 = 0
        | _ => False

/-- R88 check 5: two windows of a load share a row of one panel, or two LIVE windows a store row. -/
def WindowsOverlap (rs : List RawWindow) : Prop :=
  let places := rs.filterMap fun
    | .window _ p first base length _ key _ _ _ _ => some (p, first, base, length, key)
    | _ => none
  ¬ places.Pairwise fun (p, f, b, l, k) (p', f', b', l', k') =>
    ¬ (p = p' ∧ f < f' + l' ∧ f' < f + l) ∧ ¬ (k = 1 ∧ k' = 1 ∧ b < b' + l' ∧ b' < b + l)

/-! ### The table that the records of a load give, by Tables 12-3 and 12-4 -/

/-- R51, R53: a cadence entry of a record in its ranges. -/
def cadenceRead (r : RawCadence) : CadenceEntry :=
  { weekdays := BitVec.ofNat 7 r.weekdays.toNat
    holiday := match r.holiday.toNat with | 0 => .any | 1 => .notOnHoliday | _ => .onlyOnHoliday
    value := BitVec.ofNat 11 r.value, mask := BitVec.ofNat 11 r.mask
    condition := if r.flag = 0xFF then none else some (r.flag.toNat, decide (r.sense = 1))
    action :=
      let first := (r.operand.getD 0 0).toNat
      match r.action.toNat with
      | 1 => .flagsSet (BitVec.ofNat 13 (beNat r.operand))
      | 2 => .flagsClear (BitVec.ofNat 13 (beNat r.operand))
      | 3 => .panelMode first (match (r.operand.getD 1 0).toNat with | 0 => .off | 1 => .dim | _ => .on)
      | 4 => .windowShow first
      | 5 => .windowHide first
      | _ => .sendReport }

/-- R59: a service of a record in its ranges. -/
def serviceRead (r : RawService) : Service :=
  { id := r.id, dir := if r.dir = 0 then .up else .down, platform := r.platform
    arrival := if r.arrival = 65535 then none else some r.arrival, dep := r.dep
    days := BitVec.ofNat 7 r.runsOn.toNat, holiday := decide (128 ≤ r.runsOn.toNat)
    request := decide (r.options.toNat % 2 = 1), sellable := decide (r.options.toNat / 2 % 2 = 1), calls := r.calls }

/-- R58: a bank that holds the services of a load, in the order of departure and then id. -/
def BankRead (version : Nat) (r : LoadRange) (rs : List RawService) (b : Bank) : Prop :=
  b.version = version ∧ b.fromDay = r.fromDay ∧ b.toDay = r.toDay ∧ b.services.Perm (rs.map serviceRead)
    ∧ b.services.Pairwise (fun v w => v.dep < w.dep ∨ (v.dep = w.dep ∧ v.id < w.id))

/-- R113 to R116: a stop and fare table that holds the records of a load. -/
def FaresRead (version : Nat) (rs : List RawFare) (f : FareTable) : Prop :=
  f.version = version ∧ RawFare.header f.home f.step f.childMin ∈ rs ∧ f.groups.length = 4
    ∧ (∀ (n : Nat) (g : Tariff), f.groups[n]? = some g →
        RawFare.group n g.boarding g.rate1 g.taper g.rate2 g.cap g.offPeak g.conc (if g.barred then 1 else 0) g.ret ∈ rs)
    ∧ f.workBands = (rs.filterMap fun | .band t a b => if t = 0 then some (a, b) else none | _ => none)
    ∧ f.restBands = (rs.filterMap fun | .band t a b => if t = 1 then some (a, b) else none | _ => none)
    ∧ f.stops = (rs.filterMap fun
        | .stop n c d g => some ⟨n, c, d, if g = 0xFF then none else some g.toNat⟩
        | _ => none)

/-- R86, R87, R89: a window table that holds the records of a load: its panels in load order, its windows in the order of their numbers,
each shown and a LIVE one marked, and its banner texts, spaces for one that is not carried. How a present byte above 1 reads is free (the
model's choice, log entry 11). -/
def WindowsRead (rs : List RawWindow) (t : WindowTable) : Prop :=
  t.panels = (rs.filterMap fun | .panel p y r => some ⟨p, readYesNo y, r⟩ | _ => none)
    ∧ t.windows.Pairwise (fun a b => a.number < b.number)
    ∧ t.windows.Perm (rs.filterMap fun
        | .window n p first base length dir key kind platforms dirs options => some
            { number := n, panel := p, first := first, base := base, length := length, reverse := decide (dir = 1)
              live :=
                if key = 1 then some (match kind.toNat with | 1 => .departures | 2 => .nextTrain | 3 => .notices | _ => .clock)
                else none
              platforms := BitVec.ofNat 4 platforms.toNat, dirs := BitVec.ofNat 2 dirs.toNat
              inclCanc := decide (options.toNat % 2 = 1), callingRows := decide (options.toNat / 2 % 2 = 1)
              moreLine := decide (options.toNat / 4 % 2 = 1), shown := true, marked := decide (key = 1), cands := [] }
        | _ => none)
    ∧ t.banners.length = 4
    ∧ ∀ i, i < 4 →
        (∀ cells, .banner (i + 1) cells ∈ rs → cellsOf cells = some (t.banners.getD i []))
        ∧ ((∀ cells, .banner (i + 1) cells ∉ rs) → t.banners.getD i [] = spaces)

/-! ### What the timetable's queries answer -/

/-- R64: the first entry (`true` from the holdover list) stands before the second in display order. -/
def ShownBefore (a b : Bool × RunEntry) : Prop :=
  let expected (p : Bool × RunEntry) : Nat := ((p.2.svc.dep : Int) + p.2.delay - (if p.1 then 1440 else 0)).toNat
  expected a < expected b
    ∨ (expected a = expected b
      ∧ ((a.1 = true ∧ b.1 = false)
        ∨ (a.1 = b.1 ∧ (a.2.svc.dep < b.2.svc.dep ∨ (a.2.svc.dep = b.2.svc.dep ∧ a.2.svc.id < b.2.svc.id)))))

/-- An entry of the holdover list (`true`) or of the running table. -/
def HeldIn (s : State) (p : Bool × RunEntry) : Prop := p.2 ∈ (if p.1 then s.tt.holdover else s.tt.entries)

/-- R75, R79: PLANNED, RUNNING, STALE or ARRIVING. -/
def StillToCome (e : RunEntry) : Prop :=
  e.state = .planned ∨ e.state = .running ∨ e.state = .stale ∨ e.state = .arriving

/-- R72 to R74, R78, R81, R143: `t` is what the day end to `day` and the tick at `minute` after it leave of the timetable of `s`. Up to 4
late entries are held over where the new day is the next one, and none where it is not. The old holdover entries are discarded and every
other entry still to come lapses, each with its stop request, and a sale not yet paid that has chosen such a service goes on as a sale to
ANY, unless the same event closes it. The bank for the day is chosen, and a rise of TIMETABLE_EXPIRED raises its notice. -/
def TimetableDayEnded (s : State) (day weekday minute : Nat) (t : State) : Prop :=
  let live (e : RunEntry) : Bool := decide (e.state = .planned ∨ e.state = .running ∨ e.state = .stale ∨ e.state = .arriving)
  let late (e : RunEntry) : Bool := live e && decide (1440 ≤ expectedOf false e)
  let held : List RunEntry :=
    if day = (if s.clock.day = 65535 then 0 else s.clock.day + 1) then
      ((displayOrder ((s.tt.entries.filter late).map (false, ·))).take 4).map (·.2)
    else []
  let ends : List RunEntry :=
    s.tt.holdover ++ s.tt.entries.filter fun e => live e && !held.any fun h => decide (h.svc.id = e.svc.id)
  let lapsed : List RunEntry := (t.tt.holdover ++ t.tt.entries).filter fun e => decide (e.state = .lapsed)
  let of (id n : Nat) (e : RunEntry) : Bool := decide (e.svc.id = id ∧ e.day = n)
  let covering (b : Bank) : Prop := b.fromDay ≤ day ∧ day ≤ b.toDay
  t.tt.holdover = held.map (entryAfterTick s true minute)
    ∧ (∀ e ∈ t.tt.entries, e.day = day ∧ (e.state = .planned ∨ e.state = .lapsed) ∧ e.delay = 0 ∧ e.stopOrdered = false
        ∧ ∃ b, t.tt.running = some b ∧ e.svc ∈ b.services ∧ (e.svc.holiday = true ∨ e.svc.days.getLsbD weekday = true))
    ∧ t.tt.stopReqs = s.tt.stopReqs.filter (fun q => !((ends ++ lapsed).any (of q.id q.day)))
    ∧ (∀ q ∈ s.tt.stopReqs, q ∉ t.tt.stopReqs →
        s.tt.stopReqs.find? (fun x => decide (x.id = q.id ∧ x.day = q.day)) = some q → q.state = .lodged →
        t.cond.pending.getLsbD 12 = true)
    ∧ (∀ b, s.tt.standing = some b → covering b →
        t.tt.running = some b ∧ t.tt.standing = none ∧ t.tt.expired = false)
    ∧ ((∀ b, s.tt.standing = some b → ¬ covering b) →
        t.tt.standing =
            (match s.tt.standing with
             | some b => if b.toDay < day then none else some b
             | none => none)
        ∧ ((∃ b, s.tt.running = some b ∧ covering b) → t.tt.running = s.tt.running ∧ t.tt.expired = s.tt.expired)
        ∧ ((∀ b, s.tt.running = some b → ¬ covering b) → t.tt.running = none ∧ t.tt.expired = true))
    ∧ t.cond.pending.getLsbD 15 = (s.cond.pending.getLsbD 15 || (t.tt.expired && !s.tt.expired))
    ∧ (∀ w ∈ t.board.windows, w.live = some .departures ∨ w.live = some .nextTrain → w.marked = true)
    ∧ (s.sale.state = .issuing ∨ s.sale.state = .settling → t.sale = s.sale)
    ∧ ∀ id n, s.sale.service = some (.train id n) → t.sale.state ≠ .idle →
        let gone := ends.any fun e => of id n e && e.svc.sellable && live e
        (gone = true → s.sale.state = .selecting ∨ s.sale.state = .quoted ∨ s.sale.state = .paying →
          t.sale.service = some .any ∧ ∃ told more, t.out = s.out ++ told ++ .console (.serviceGone id) :: more)
        ∧ (gone = false → lapsed.any (of id n) = false → t.sale.service = s.sale.service)

/-- R108, train near: a shown DEPARTURES or NEXT_TRAIN window of the panel has in its candidate set a service whose expected departure,
less the current minute, is at or below the wake lead. That a CANCELLED candidate counts is the model's reading (DEDUCED, log entry
34). -/
def TrainIsNear (s : State) (panel : Nat) : Prop :=
  s.clock.valid = true
    ∧ ∃ w ∈ s.board.windows, w.panel = panel ∧ w.shown = true ∧ (w.live = some .departures ∨ w.live = some .nextTrain)
      ∧ ∃ held e, HeldIn s (held, e) ∧ (e.svc.id, e.day) ∈ w.cands ∧ e.state ≠ .departed ∧ e.state ≠ .lapsed
        ∧ expectedOf held e ≤ s.clock.minute + s.settings.wakeLead

/-! ### Which commands -/

/-- R201, R202: the commands that may empty the fault capture record: FAULT CLEAR, as itself or as a frame that ends at the upline port,
and the commands of the supply. -/
def MayClearFault : Instr → Bool
  | .faultClear _ _ | .uplineFrame _ | .coldStart _ | .powerFailed => true
  | .standbySupplyFailed | .receiverLineIdle _ | .downlineFrame _
  | .outboundSend | .downlineSendDone | .inboundMerge | .uplineSendDone | .linkSilenceExpiry | .restart _ _
  | .loadBegin _ _ | .loadSegment _ _ | .loadEnd _ _ | .loadSilenceExpiry _ | .setting _ _ | .minuteTick
  | .clockSet _ _ | .runningUpdate _ _ | .rowWrite _ _ | .composition | .panelMode _ _ | .busTransaction | .ackExpiry
  | .pingTimerExpiry _ | .inactivityExpiry | .printTimerExpiry | .payoutTimerExpiry | .tubeSet _ _ | .denyAdd _ _
  | .denyConfirm _ _ | .serialBlock _ _ | .journalAck _ _ | .journalBuild | .ackTimerExpiry | .flags _ _
  | .noticeClear _ _ | .noticeMask _ _ | .statusPoll _ _ | .reportTimerExpiry
  | .wake | .destination _ | .service _ | .product _ | .party _ _ _ | .confirm _ | .cancel | .stopRequest _ | .done
  | .fault | .printerReady | .offer _ | .payoutDone _ _ _ _ | .coinReady | .coinNotReady | .token _ | .cardReady
  | .cardNotReady | .ack _ => false

/-- R132: a choice of the passenger whose operands lie in the ranges of Table 8-1. -/
def IsChoice (c : Instr) : Prop :=
  WellFormed c = true ∧ ((∃ d, c = .destination d) ∨ (∃ i, c = .service i) ∨ (∃ p, c = .product p) ∨ ∃ a b q, c = .party a b q)

/-- A property that every step keeps. -/
def KeptByEveryStep (p : State → Prop) : Prop := ∀ s t : State, p s → step s = .next t → p t

/-- A message that arrives on a module port (00_scope.md, Two Ways In). -/
def FromModule : Instr → Bool
  | .wake | .destination _ | .service _ | .product _ | .party _ _ _ | .confirm _ | .cancel | .stopRequest _ | .done
  | .fault | .printerReady | .offer _ | .payoutDone _ _ _ _ | .coinReady | .coinNotReady | .token _ | .cardReady
  | .cardNotReady | .ack _ => true
  | .coldStart _ | .powerFailed | .standbySupplyFailed | .receiverLineIdle _ | .uplineFrame _ | .downlineFrame _
  | .outboundSend | .downlineSendDone | .inboundMerge | .uplineSendDone | .linkSilenceExpiry | .restart _ _
  | .loadBegin _ _ | .loadSegment _ _ | .loadEnd _ _ | .loadSilenceExpiry _ | .setting _ _ | .minuteTick
  | .clockSet _ _ | .runningUpdate _ _ | .rowWrite _ _ | .composition | .panelMode _ _ | .busTransaction | .ackExpiry
  | .pingTimerExpiry _ | .inactivityExpiry | .printTimerExpiry | .payoutTimerExpiry | .tubeSet _ _ | .denyAdd _ _
  | .denyConfirm _ _ | .serialBlock _ _ | .journalAck _ _ | .journalBuild | .ackTimerExpiry | .flags _ _
  | .noticeClear _ _ | .noticeMask _ _ | .faultClear _ _ | .statusPoll _ _ | .reportTimerExpiry => false

end Sys2Proof.Machine
end

