-- ==== Sys2Proof/Certificates/Slice0/Obligations.lean ====
section
/-! DEFINITION. The statements for the provers. Each says what a rule of the spec claims of the commands it names: that `exec` answers
a next state, what that state holds, and (by an equation `t = s` with the changed parts named) what stays as it was. -/

open Sys2Proof Sys2Proof.Machine

/-! ### The queue, power and reset -/

/-- A step takes the command at the front of the queue and runs it with the rest of the queue. -/
def Obligations.StepTakesTheFrontCommand : Prop :=
  ∀ (c : Instr) (rest : List Instr) (s : State),
    step { s with pending := c :: rest } = exec c { s with pending := rest }

/-- Every command completes, and none touches the queue. Without power only COLD_START and STANDBY_SUPPLY_FAILED have an effect
(the model's choice, log entry 6). -/
def Obligations.EveryCommandCompletes : Prop :=
  ∀ (c : Instr) (s : State), ∃ t, exec c s = .next t ∧ t.pending = s.pending
    ∧ (s.powered = false → (∀ straps, c ≠ .coldStart straps) → c ≠ .standbySupplyFailed → t = s)

/-- R38, R17, R26, R111, R140, R148, R150, R185: on an empty queue a second passes (log entries 1 and 2). Every timer that runs has
measured one second more, and the clock's second advances while CLOCK_VALID is present, past 59 with the minute tick; where one
timer reaches its limit, its expiry follows, before or after the tick, and where none does, nothing else. -/
def Obligations.IdleSecond : Prop :=
  ∀ s : State, s.powered = true → s.pending = [] → s.panels.recs.length = 6 → s.clock.move = none → s.clock.second ≤ 59 →
    let longer (a : Option Staging) : Option Staging := a.map fun x => { x with silence := x.silence + 1 }
    let timed : State := { s with
      line := { s.line with linkTimer := s.line.linkTimer.map (· + 1) }
      jrn := { s.jrn with ackTimer := s.jrn.ackTimer.map (· + 1) }
      sale := { s.sale with
        inactivity := s.sale.inactivity.map (· + 1), print := s.sale.print.map (· + 1), payout := s.sale.payout.map (· + 1) }
      loader := { timetable := longer s.loader.timetable, fares := longer s.loader.fares, windows := longer s.loader.windows
                  cadence := longer s.loader.cadence, deny := longer s.loader.deny }
      panels := { s.panels with recs := s.panels.recs.map fun r => { r with pingTimer := r.pingTimer.map (· + 1) } } }
    let counted : State := { timed with
      clock := if s.clock.valid then { s.clock with second := s.clock.second + 1 } else s.clock }
    let ends := s.clock.valid = true ∧ s.clock.second = 59
    (¬ ends → (∀ c, ¬ DueNext s c) → ∃ n, step s = .next { counted with freeCount := n })
    ∧ (¬ ends → ∀ c, DueNext s c → (∀ c', DueNext s c' → c' = c) → s.line.linkTimer.isSome = !s.line.linkLost →
        ∃ t n, exec c counted = .next t ∧ step s = .next { t with freeCount := n })
    ∧ (ends → (∀ c, ¬ DueNext s c) →
        ∃ t m n, exec .minuteTick { timed with freeCount := m } = .next t ∧ step s = .next { t with freeCount := n })
    ∧ (ends → ∀ c, DueNext s c → (∀ c', DueNext s c' → c' = c) → s.line.linkTimer.isSome = !s.line.linkLost →
        ∃ t u m n,
          ((exec .minuteTick { timed with freeCount := m } = .next t ∧ exec c t = .next u)
            ∨ (exec c timed = .next t ∧ exec .minuteTick { t with freeCount := m } = .next u))
          ∧ step s = .next { u with freeCount := n })

/-- R21, R36, R174: a cold start of a part whose store marker is missing. The order of the four messages is the model's (log entry
8). -/
def Obligations.ColdStartOfFreshStore : Prop :=
  ∀ (straps : Straps) (s : State), s.ret.marker = false →
    exec (.coldStart straps) s = .next { State.reset with
      line := Line.coldStart straps
      settings := Settings.default straps.preset
      out := s.out ++ [.console (.closed .restart), .coin .ret, .coin (.accept false), .card .disarm]
      freeCount := s.freeCount
      pending := s.pending }

/-- R189, R190: a cold start that finds its store closes the open record, where there is one, as a recovered SALE when it is printed and
as VOID(POWER_LOSS) when it is not; the day totals take it; a pending day close is settled; the upload begins from the ack point.
The order of the four messages is the model's (log entry 8), and that figures stop at their greatest value too (log entry 19). -/
def Obligations.ColdStartRecoversOpenRecord : Prop :=
  ∀ (straps : Straps) (s : State), s.ret.marker = true →
    ∃ t, exec (.coldStart straps) s = .next t
      ∧ t.ret = storeClosed s.ret false ((openRec s).map (selfClosed .powerLoss))
      ∧ t.jrn.sendPoint = s.ret.ackPoint ∧ t.jrn.highPoint = s.ret.ackPoint ∧ t.jrn.reserved = false
      ∧ t.jrn.ackTimer = none ∧ t.jrn.l1 = l1Now t ∧ t.jrn.l2 = l2Now t ∧ t.jrn.noSerials = noSerialsNow t
      ∧ t.jrn.serialsLow = serialsLowNow t
      ∧ t.pay = { State.reset.pay with
          low10 := decide (s.ret.tubes.c10 ≤ t.settings.tubeLow10), low20 := decide (s.ret.tubes.c20 ≤ t.settings.tubeLow20)
          low50 := decide (s.ret.tubes.c50 ≤ t.settings.tubeLow50)
          low100 := decide (s.ret.tubes.c100 ≤ t.settings.tubeLow100) }
      ∧ t = { State.reset with
          line := Line.coldStart straps, settings := Settings.default straps.preset, ret := t.ret, jrn := t.jrn, pay := t.pay
          out := s.out ++ [.console (.closed .restart), .coin .ret, .coin (.accept false), .card .disarm]
          freeCount := s.freeCount, pending := s.pending }

/-- R21, R173, R174: a part that loses its main supply keeps its retained store and nothing else: every other item is lost, and holds its
reset value until the cold start (the model's choice, log entry 6); the store is lost when the standby supply fails while the main
supply is off. What has been sent outside and the model's own counter and queue are no items of the part. -/
def Obligations.SupplyFailures : Prop :=
  ∀ s : State,
    (s.powered = true → exec .powerFailed s = .next { State.reset with
        powered := false, ret := s.ret, out := s.out, freeCount := s.freeCount, pending := s.pending })
      ∧ (s.powered = true → exec .standbySupplyFailed s = .next s)
      ∧ (s.powered = false → ∃ t, exec .standbySupplyFailed s = .next t ∧ t.ret.marker = false ∧ t = { s with ret := t.ret })

/-- R19, Table 1-5: whatever the front command is, a part that stays powered keeps its straps, and a cold start reads them; with them
stand the halt number of its own frames, the rate of its line and, after a cold start, its journal thresholds. -/
def Obligations.StrapsHeld : Prop :=
  ∀ (c : Instr) (s t : State), exec c s = .next t → t.powered = true →
    t.line.straps = (match c with | .coldStart straps => straps | _ => s.line.straps)
    ∧ t.line.bitRate =
        (match (match c with | .coldStart straps => straps | _ => s.line.straps).lineRate with
         | 0 => 1200 | 1 => 2400 | 2 => 4800 | 3 => 9600 | 4 => 19200 | 5 => 38400 | 6 => 9600 | 7 => 9600)
    ∧ (∀ straps, c = .coldStart straps → t.settings = Settings.default straps.preset)
    ∧ ∀ k body, (ownChars t k body).headD 0 = BitVec.ofNat 8 (128 + t.line.straps.haltNumber.val)

/-! ### The halt line (chapter 1) -/

/-- R5, R8: after a cold start a receiver first waits for its idle line, and what arrives before is no frame (its end is taken as
the idle line, log entry 7); the downline receiver of an end-of-chain halt takes nothing. -/
def Obligations.ReceiversAwaitIdleLine : Prop :=
  ∀ (s : State) (chars : List Byte), s.powered = true →
    exec (.receiverLineIdle .upline) s = .next { s with line := { s.line with upReady := true } }
      ∧ (s.line.straps.endOfChain = false →
          exec (.receiverLineIdle .downline) s = .next { s with line := { s.line with downReady := true } })
      ∧ (s.line.straps.endOfChain = true →
          exec (.receiverLineIdle .downline) s = .next s ∧ exec (.downlineFrame chars) s = .next s)
      ∧ (s.line.upReady = false →
          exec (.uplineFrame chars) s = .next { s with line := { s.line with upReady := true } })
      ∧ (s.line.straps.endOfChain = false → s.line.downReady = false →
          exec (.downlineFrame chars) s = .next { s with line := { s.line with downReady := true } })

/-- R6: a frame that fails a test is counted once at its port and has no other effect; a valid frame at the upline port restarts
the link-silence timer whatever its address and kind. -/
def Obligations.FrameCheck : Prop :=
  ∀ (s : State) (chars : List Byte), s.powered = true →
    (s.line.upReady = true → ¬ ValidFrame .outbound chars →
        exec (.uplineFrame chars) s =
          .next { s with line := { s.line with checkErrors := min (s.line.checkErrors + 1) 65535 } })
      ∧ (s.line.downReady = true → s.line.straps.endOfChain = false → ¬ ValidFrame .inbound chars →
          exec (.downlineFrame chars) s =
            .next { s with line := { s.line with checkErrors := min (s.line.checkErrors + 1) 65535 } })
      ∧ (s.line.upReady = true → ValidFrame .outbound chars →
          ∃ t, exec (.uplineFrame chars) s = .next t ∧ t.line.linkTimer = some 0 ∧ t.line.linkLost = false)

/-- R7, Table 1-1: the address filter. A forwarded frame is offered to the outbound queue as received; a consumed frame is the
command of its kind, and a consumed frame of any other kind is discarded. That the command is performed in the step in which the frame
ends, with no event between, is the model's choice (log entry 3), and so is, for every kind but RESTART, that it is performed after the link
timer is restarted and the frame forwarded (log entry 50). `linkHeard` is what R17 does with a valid frame. -/
def Obligations.AddressFilter : Prop :=
  ∀ (s : State) (chars : List Byte), s.powered = true → s.line.upReady = true → ValidFrame .outbound chars →
    let h := (chars.getD 0 0).toNat % 32
    let own := s.line.straps.haltNumber.val
    let kind := chars.getD 1 0
    let body := (chars.drop 3).take (chars.length - 5)
    let u := linkHeard s
    let v :=
      if s.line.straps.endOfChain = false ∧ (h = 0 ∨ h ≠ own) then
        if s.line.outboundQ.length < 8 then { u with line := { u.line with outboundQ := s.line.outboundQ ++ [chars] } }
        else { u with line := { u.line with transitDrops := min (s.line.transitDrops + 1) 65535 } }
      else u
    exec (.uplineFrame chars) s =
      if h = 0 then (match frameCommand kind .all body with | some c => exec c v | none => .next v)
      else if h = own then (match frameCommand kind .own body with | some c => exec c v | none => .next v)
      else .next v

/-- R17, R187: the link-silence timer expires: LINK_LOST present, its notice raised, the timer stopped, the journal's send point
returned; and the first valid frame after it (here one that the filter discards) clears LINK_LOST and raises LINK_RESTORED. -/
def Obligations.LinkLostAndRestored : Prop :=
  ∀ (s : State) (chars : List Byte), s.powered = true →
    let mark (w : Window) : Window := if w.live = some .notices then { w with marked := true } else w
    (s.line.linkTimer.isSome = true → s.line.linkLost = false →
      ∃ t, exec .linkSilenceExpiry s = .next t
        ∧ t = { s with
            line := { s.line with
              linkLost := true, linkTimer := none, ownQ := t.line.ownQ, ownDrops := t.line.ownDrops }
            jrn := { s.jrn with sendPoint := s.ret.ackPoint, ackTimer := none }
            cond := { s.cond with pending := s.cond.pending ||| 1#16 }
            board := { s.board with windows := s.board.windows.map mark } })
    ∧ (s.line.linkTimer = none ∨ s.line.linkLost = true → exec .linkSilenceExpiry s = .next s)
    ∧ (s.line.linkLost = true → s.line.upReady = true → s.line.straps.endOfChain = true → ValidFrame .outbound chars →
        (chars.getD 0 0).toNat % 32 ≠ 0 → (chars.getD 0 0).toNat % 32 ≠ s.line.straps.haltNumber.val →
      ∃ t, exec (.uplineFrame chars) s = .next t
        ∧ t = { s with
            line := { s.line with
              linkLost := false, linkTimer := some 0, ownQ := t.line.ownQ, ownDrops := t.line.ownDrops }
            cond := { s.cond with pending := s.cond.pending ||| 2#16 }
            board := { s.board with windows := s.board.windows.map mark } })

/-- R8 to R10: a valid frame from the downline port joins the inbound queue or is dropped and counted; the downline transmitter,
its gap run, takes the head of the outbound queue; at the last character the frame has left and the gap begins. -/
def Obligations.DownlineSide : Prop :=
  ∀ (s : State) (chars : List Byte), s.powered = true →
    (s.line.downReady = true → s.line.straps.endOfChain = false → ValidFrame .inbound chars →
      exec (.downlineFrame chars) s = .next
        (if s.line.inboundQ.length < 16 then { s with line := { s.line with inboundQ := s.line.inboundQ ++ [chars] } }
         else { s with line := { s.line with transitDrops := min (s.line.transitDrops + 1) 65535 } }))
    ∧ exec .outboundSend s = .next
        (match s.line.downTx, s.line.outboundQ with
         | .sending _, _ => s
         | _, [] => s
         | _, f :: fs => { s with line := { s.line with downTx := .sending f, outboundQ := fs } })
    ∧ exec .downlineSendDone s = .next
        (match s.line.downTx with
         | .sending f => { s with line := { s.line with downTx := .gap }, out := s.out ++ [.downline f] }
         | _ => s)

/-- R13, R14, Table 1-2: the inbound merge with the effective merge share k: the setting, or 1 while JOURNAL_L1 is present. -/
def Obligations.InboundMergeChoice : Prop :=
  ∀ s : State, s.powered = true →
    let k := if s.jrn.l1 then 1 else s.settings.mergeShare
    (∀ f, s.line.upTx = .sending f → exec .inboundMerge s = .next s)
    ∧ ((∀ f, s.line.upTx ≠ .sending f) →
      exec .inboundMerge s = .next
        (match s.line.inboundQ, s.line.ownQ with
         | [], [] => s
         | f :: fs, [] => { s with line := { s.line with upTx := .sending (.transit f), inboundQ := fs, streak := 0 } }
         | [], g :: gs => { s with line := { s.line with upTx := .sending (.own g), ownQ := gs, streak := 0 } }
         | f :: fs, g :: gs =>
           if s.line.streak < k then
             { s with line := { s.line with
                 upTx := .sending (.transit f), inboundQ := fs, streak := s.line.streak + 1 } }
           else { s with line := { s.line with upTx := .sending (.own g), ownQ := gs, streak := 0 } }))

/-- R12, R185: at the last character sent upline the frame has left and the gap begins; for a JOURNAL frame the ack timer restarts
when records are outstanding. -/
def Obligations.UplineSendDone : Prop :=
  ∀ s : State, s.powered = true →
    exec .uplineSendDone s = .next
      (match s.line.upTx with
       | .sending (.own f) =>
         { s with
           line := { s.line with upTx := .gap }
           out := s.out ++ [.upline (.own f)]
           jrn := if f.kind = .journal ∧ s.ret.ackPoint < s.jrn.sendPoint then { s.jrn with ackTimer := some 0 } else s.jrn }
       | .sending (.transit f) =>
         { s with line := { s.line with upTx := .gap }, out := s.out ++ [.upline (.transit f)] }
       | _ => s)

/-- R11, R198, R203, R204, R208, R210: an own frame passes the frame check of the next halt upline, with this halt's number, its kind and its
body, and joins the own-frame queue or is dropped and counted. A journal record has 48 bytes and a halt report 85, and 8 for each stop
request, with the fields of Tables 12-7 and 12-9 at their offsets, as `RecordLaidOut` and `ReportLaidOut` spell them; an empty bank, window
table or cadence table and an absent stop and fare table have version 0 (Table 11-5). That the bits the tables do not number are sent as
0 is the model's choice (log entry 44), and that a window table of banner texts alone is not empty its reading (DEDUCED, log entry 43). -/
def Obligations.OwnFramesPassTheCheck : Prop :=
  ∀ (s : State) (k : OwnKind) (body : List Byte) (r : JRecord) (why : ReportReason),
    (body.length ≤ 200 →
      ValidFrame .inbound (ownChars s k body) ∧ frameHalt (ownChars s k body) = s.line.straps.haltNumber.val
        ∧ frameKind (ownChars s k body) = (match k with | .answer => 0x80 | .haltReport => 0x81 | .journal => 0x82)
        ∧ frameBody (ownChars s k body) = body)
    ∧ crc16 [0x31, 0x32, 0x33, 0x34, 0x35, 0x36, 0x37, 0x38, 0x39] = 0x29B1#16
    ∧ handOwn k body s =
        (if s.line.straps.haltNumber ≠ 0 ∧ s.line.ownQ.length < 6 then
          { s with line := { s.line with ownQ := s.line.ownQ ++ [⟨k, ownChars s k body⟩] } }
         else { s with line := { s.line with ownDrops := min (s.line.ownDrops + 1) 65535 } })
    ∧ (recordBytes r).length = 48 ∧ RecordLaidOut r (recordBytes r)
    ∧ (s.panels.recs.length = 6 →
        (reportBody why s).length = 85 + 8 * s.tt.stopReqs.length ∧ ReportLaidOut why s (reportBody why s))

/-- R11, R16: the answer to a frame addressed to this halt joins the own-frame queue with the body of Table 12-5, or is dropped and
counted; a frame addressed to halt 0 is not answered. -/
def Obligations.AnswersJoinTheOwnQueue : Prop :=
  ∀ (s : State) (kind : Byte) (a : Answer) (ref : List Byte),
    answer .all kind a ref s = s
    ∧ answer .own kind a ref s =
        if s.line.straps.haltNumber ≠ 0 ∧ s.line.ownQ.length < 6 then
          { s with line := { s.line with ownQ := s.line.ownQ ++ [⟨.answer, ownChars s .answer
              ([kind] ++
                (match a with
                 | .accepted => [1, 0] | .clamped => [2, 0] | .committed => [3, 0] | .missing _ _ => [4, 0]
                 | .noLoad => [5, 0] | .full => [6, 0] | .refused .field => [7, 1] | .refused .capacity => [7, 2]
                 | .refused .overlap => [7, 3] | .refused .notCurrent => [7, 4] | .refused .order => [7, 5]
                 | .refused .isProtected => [7, 6] | .refused .kind => [7, 7]) ++ ref ++
                (match a with
                 | .missing n l => [BitVec.ofNat 8 n, BitVec.ofNat 8 l.length] ++ l.map (BitVec.ofNat 8)
                 | _ => []))⟩] } }
        else { s with line := { s.line with ownDrops := min (s.line.ownDrops + 1) 65535 } }

/-- R18, R37, R83, R104, R112, R153, R172, R191, R196, R200: what a line restart leaves of each block. The order of its messages (log
entries 8 and 27), the CLOCK SETs that wait behind the one in progress kept (log entry 14), the link-silence timer and LINK_LOST kept
(log entry 25), the bus free at once (log entry 33) and no ping left due (log entry 42) are the model's, and so is that figures stop at
their greatest value (log entry 19). -/
def Obligations.LineRestart : Prop :=
  ∀ (d : Dest) (s : State), s.powered = true →
    (∀ b bs, exec (.restart d (b :: bs)) s = .next s)
    ∧ ∃ t, exec (.restart d []) s = .next t
      ∧ t.line = { s.line with ownQ := [], streak := 0 }
      ∧ t.loader = Loader.empty ∧ t.settings = s.settings ∧ t.clock = s.clock ∧ t.fares = s.fares
      ∧ t.sale = Sale.atRest ∧ t.printerFault = s.printerFault
      ∧ t.out = s.out ++ (if s.sale.state = .idle then [] else [.console (.closed .restart)])
          ++ [.coin .ret, .coin (.accept false), .card .disarm]
      ∧ t.pay = { s.pay with escrow := [], plan := none, accept := false, armed := false, tally := [] }
      ∧ t.tt = { s.tt with
          holdover := [], stopReqs := []
          entries :=
            if s.clock.valid then
              (freshRunning s.tt.running (s.cond.ctrl.getLsbD 4) s.clock.day s.clock.weekday).map fun e =>
                if expectedOf false e + s.settings.lapseWindow ≤ s.clock.minute then { e with state := .lapsed } else e
            else [] }
      ∧ t.cond = { s.cond with pending := 0, reportTimer := none, salesOpen := t.cond.salesOpen }
      ∧ t.cond.salesOpen = salesOpenNow t
      ∧ t.jrn = { s.jrn with
          reserved := false, sendPoint := s.ret.ackPoint, ackTimer := none
          l1 := l1Now t, l2 := l2Now t, noSerials := noSerialsNow t, serialsLow := serialsLowNow t }
      ∧ t.ret = storeClosed s.ret false ((openRec s).map (selfClosed .restart))
      ∧ t.board = { s.board with
          windows := s.board.windows.map fun w => { w with marked := w.live.isSome || w.marked, cands := [] } }
      ∧ t.panels =
          { place := 6, inFlight := none
            recs := s.panels.recs.map fun r =>
              if r.present then { r with
                silent := false, miss := 0, pingTimer := none, pingDue := false, modePending := true
                marks := r.marks.map fun _ => true
                eff := if s.cond.ctrl.getLsbD 5 then .off else r.mode }
              else r }

/-! ### Loads and settings (chapter 2) -/

/-- R23, R24, R205: a LOAD BEGIN is checked in the order of R23, and one that passes opens its staging area afresh. R205: one of 4 bytes
for TIMETABLE, of 9 for another kind, or of any other length is REFUSED(FIELD), and one of 9 bytes with an unknown kind REFUSED(KIND).
The reference bytes of an answer to a body that is too short to hold them are free (log entry 10). -/
def Obligations.LoadBeginChecked : Prop :=
  ∀ (d : Dest) (k v1 v0 n t f1 f0 u1 u0 : Byte) (s : State), s.powered = true →
    (kindOfByte k = none →
      exec (.loadBegin d [k, v1, v0, n]) s = .next (answer d 0x01 (.refused .kind) [k, v1, v0] s))
    ∧ (∀ kind, kindOfByte k = some kind → kind ≠ .timetable →
        exec (.loadBegin d [k, v1, v0, n]) s = .next
          (if 1 ≤ n.toNat ∧ n.toNat ≤ 64 then
            answer d 0x01 .accepted [k, v1, v0]
              (setStaging kind (some ⟨beNat [v1, v0], List.replicate n.toNat none, none, 0⟩) s)
          else answer d 0x01 (.refused .field) [k, v1, v0] s))
    ∧ (kindOfByte k = some .timetable →
        exec (.loadBegin d [k, v1, v0, n, t, f1, f0, u1, u0]) s = .next
          (if 1 ≤ n.toNat ∧ n.toNat ≤ 64 ∧ t.toNat ≤ 1 ∧ beNat [f1, f0] ≤ beNat [u1, u0] then
            answer d 0x01 .accepted [k, v1, v0]
              (setStaging .timetable (some ⟨beNat [v1, v0], List.replicate n.toNat none,
                some ⟨if t = 0 then .today else .next, beNat [f1, f0], beNat [u1, u0]⟩, 0⟩) s)
          else answer d 0x01 (.refused .field) [k, v1, v0] s))
    ∧ (kindOfByte k = some .timetable →
        exec (.loadBegin d [k, v1, v0, n]) s = .next (answer d 0x01 (.refused .field) [k, v1, v0] s))
    ∧ (kindOfByte k ≠ some .timetable →
        exec (.loadBegin d [k, v1, v0, n, t, f1, f0, u1, u0]) s =
          .next (answer d 0x01 (.refused (if kindOfByte k = none then .kind else .field)) [k, v1, v0] s))
    ∧ ∀ body : List Byte, body.length ≠ 4 → body.length ≠ 9 →
        ∃ ref u, exec (.loadBegin d body) s = .next (answer d 0x01 (.refused .field) ref u)
          ∧ ref.length = 3 ∧ (∀ i, i < 3 → i < body.length → ref[i]? = body[i]?)
          ∧ u = { s with freeCount := u.freeCount } ∧ (3 ≤ body.length → u = s)

/-- R25, Table 2-2: a LOAD SEGMENT is stored at its index in the open load of its kind and version, or discarded; R26: at the
expiry of a load-silence timer the load is discarded. -/
def Obligations.LoadSegmentStored : Prop :=
  ∀ (d : Dest) (k v1 v0 i : Byte) (data : List Byte) (s : State), s.powered = true →
    (kindOfByte k = none → exec (.loadSegment d (k :: v1 :: v0 :: i :: data)) s = .next s)
    ∧ (∀ kind, kindOfByte k = some kind →
        exec (.loadSegment d (k :: v1 :: v0 :: i :: data)) s = .next
          (match staging s kind with
           | none => s
           | some a =>
             if a.version ≠ beNat [v1, v0] then s
             else if a.segments.length ≤ i.toNat then s
             else setStaging kind (some { a with segments := a.segments.set i.toNat (some data), silence := 0 }) s))
    ∧ (∀ kind, exec (.loadSilenceExpiry kind) s = .next (setStaging kind none s))

/-- R27: a LOAD END compared with the staging area of its kind: REFUSED(KIND), NO_LOAD twice, MISSING with the number missing and
up to 16 of the indices, or the assembly of the whole load, whose ANSWER joins the queue after all that the commit brings (the model's
choice where another block hands over a report, log entry 52). -/
def Obligations.LoadEndCompared : Prop :=
  ∀ (d : Dest) (k v1 v0 : Byte) (s : State), s.powered = true →
    (kindOfByte k = none → exec (.loadEnd d [k, v1, v0]) s = .next (answer d 0x03 (.refused .kind) [k, v1, v0] s))
    ∧ (∀ kind, kindOfByte k = some kind →
        (staging s kind = none → exec (.loadEnd d [k, v1, v0]) s = .next (answer d 0x03 .noLoad [k, v1, v0] s))
        ∧ (∀ a, staging s kind = some a →
            (a.version ≠ beNat [v1, v0] → exec (.loadEnd d [k, v1, v0]) s = .next (answer d 0x03 .noLoad [k, v1, v0] s))
            ∧ (a.version = beNat [v1, v0] → none ∈ a.segments →
                exec (.loadEnd d [k, v1, v0]) s = .next
                  (answer d 0x03
                    (.missing (a.segments.filter Option.isNone).length
                      (((List.range a.segments.length).filter fun i => decide (a.segments[i]? = some none)).take 16))
                    [k, v1, v0] (setStaging kind (some { a with silence := 0 }) s)))
            ∧ (∀ data, a.version = beNat [v1, v0] → a.segments = data.map some →
                exec (.loadEnd d [k, v1, v0]) s = .next
                  (answer d 0x03 (commitLoad kind a data (setStaging kind none s)).2 [k, v1, v0]
                    (commitLoad kind a data (setStaging kind none s)).1))))

/-- R28, R29, R49, R58, R60, R61, R63, R81, R86 to R89, R106, R117, R143, R167: a whole load is committed or refused, and its staging
area is emptied either way. The checks of the five kinds of load are spelled out, with the refusal that the first failing one gives, and
so is the table that the records of a load give which passes them: its fields, and the order R58 and R86 hold it in. A load with a
broken record is REFUSED(FIELD); `RecordsRead` gives the layout of each record (R206, Table 12-4). The bits that Table 12-4 does not
number are not read (log entry 21). A panel record's present byte other than 0 or 1 is not refused, and its reading is free: the model's
choice (log entry 11), as it is that the ANSWER joins the queue after an ALERT that a commit brings (log entry 52). R117 check 1 counts the bands of WORKDAY and of REST_DAY and of no other day type byte (log entry
47). A TODAY commit keeps the running entry of a service by its id, lapses at once, and tells the sale whose train has ceased to be
sellable; a WINDOWS commit gives the panel port its new panel list, and where it abandons the transaction in flight the bus is free at
once (log entry 33). -/
def Obligations.LoadsCommitWhole : Prop :=
  ∀ (d : Dest) (k v1 v0 : Byte) (kind : TableKind) (a : Staging) (data : List (List Byte)) (s : State),
    s.powered = true → kindOfByte k = some kind → staging s kind = some a → a.version = beNat [v1, v0] →
    a.segments = data.map some →
    let mark (w : Window) : Window :=
      if w.live = some .departures ∨ w.live = some .nextTrain then { w with marked := true } else w
    let refused (why : Reason) : Prop :=
      exec (.loadEnd d [k, v1, v0]) s = .next (answer d 0x03 (.refused why) [k, v1, v0] (setStaging kind none s))
    (∀ bytes rest, RecordsRead bytes rest)
    ∧ (kind = .cadence → assemble readCadence data = none → refused .field)
    ∧ (kind = .timetable → assemble readService data = none → refused .field)
    ∧ (kind = .windows → assemble readWindow data = none → refused .field)
    ∧ (kind = .fares → assemble readFare data = none → refused .field)
    ∧ (kind = .deny → assemble readToken data = none → refused .field)
    ∧ (∀ rs, kind = .cadence → assemble readCadence data = some rs →
        (32 < rs.length → refused .capacity)
        ∧ (rs.length ≤ 32 → (∃ r ∈ rs, BadCadence r) → refused .field)
        ∧ (rs.length ≤ 32 → (∀ r ∈ rs, ¬ BadCadence r) →
            validateCadence rs = .ok (rs.map cadenceRead)))
    ∧ (∀ rs r, kind = .timetable → assemble readService data = some rs → a.range = some r →
        let passes := rs.length ≤ 160 ∧ (∀ x ∈ rs, ¬ BadService x) ∧ (rs.map fun x => x.calls.length).sum ≤ 1200
          ∧ (rs.map RawService.id).Nodup
        let stale := r.target = .today
          ∧ (s.clock.valid = false ∨ ¬ (r.fromDay ≤ s.clock.day ∧ s.clock.day ≤ r.toDay))
        (160 < rs.length → refused .capacity)
        ∧ (rs.length ≤ 160 → (∃ x ∈ rs, BadService x) → refused .field)
        ∧ (rs.length ≤ 160 → (∀ x ∈ rs, ¬ BadService x) → 1200 < (rs.map fun x => x.calls.length).sum → refused .capacity)
        ∧ (rs.length ≤ 160 → (∀ x ∈ rs, ¬ BadService x) → (rs.map fun x => x.calls.length).sum ≤ 1200 →
            ¬ (rs.map RawService.id).Nodup → refused .field)
        ∧ (passes → stale → refused .notCurrent)
        ∧ (passes → ¬ stale → ∃ b, validateTimetable s a.version r rs = .ok b ∧ BankRead a.version r rs b))
    ∧ (∀ rs, kind = .fares → assemble readFare data = some rs →
        (FaresOverflow rs → refused .capacity)
        ∧ (¬ FaresOverflow rs → BadFares rs → refused .field)
        ∧ (¬ FaresOverflow rs → ¬ BadFares rs → ∃ f, validateFares a.version rs = .ok f ∧ FaresRead a.version rs f))
    ∧ (∀ rs, kind = .windows → assemble readWindow data = some rs →
        (WindowsOverflow rs → refused .capacity)
        ∧ (¬ WindowsOverflow rs → BadWindows rs → refused .field)
        ∧ (¬ WindowsOverflow rs → ¬ BadWindows rs → WindowsOverlap rs → refused .overlap)
        ∧ (¬ WindowsOverflow rs → ¬ BadWindows rs → ¬ WindowsOverlap rs →
            ∃ table, validateWindows rs = .ok table ∧ WindowsRead rs table))
    ∧ (∀ ts, kind = .deny → assemble readToken data = some ts → 2048 < ts.dedup.length → refused .capacity)
    ∧ (∀ rs es, kind = .cadence → assemble readCadence data = some rs → validateCadence rs = .ok es →
      exec (.loadEnd d [k, v1, v0]) s = .next (answer d 0x03 .committed [k, v1, v0]
        { s with
          loader := { s.loader with cadence := none }
          clock := { s.clock with cadence := es, cadenceVersion := a.version } }))
    ∧ (∀ rs r b, kind = .timetable → assemble readService data = some rs → a.range = some r → r.target = .next →
        validateTimetable s a.version r rs = .ok b →
        exec (.loadEnd d [k, v1, v0]) s = .next (answer d 0x03 .committed [k, v1, v0]
          { s with
            loader := { s.loader with timetable := none }
            tt := { s.tt with standing := some b }
            board := { s.board with windows := s.board.windows.map mark } }))
    ∧ (∀ ts, kind = .deny → assemble readToken data = some ts → ts.dedup.length ≤ 2048 →
        ∃ u, exec (.loadEnd d [k, v1, v0]) s = .next (answer d 0x03 .committed [k, v1, v0] u)
          ∧ u.loader = { s.loader with deny := none } ∧ u.pay.deny.Pairwise (· < ·) ∧ (∀ x, x ∈ u.pay.deny ↔ x ∈ ts)
          ∧ u.pay.denyAge = 0 ∧ u.pay.denyOld = denyOldNow u ∧ u.pay.tally = s.pay.tally ∧ u.ret = s.ret
          ∧ u.settings = s.settings)
    ∧ (∀ rs r b, kind = .timetable → assemble readService data = some rs → a.range = some r → r.target = .today →
        validateTimetable s a.version r rs = .ok b →
        let rebuilt (v : Service) : RunEntry :=
          match s.tt.entries.find? fun e => decide (e.svc.id = v.id) with
          | some e => { e with svc := v }
          | none => { svc := v, day := s.clock.day, state := .planned, delay := 0, platform := v.platform
                      stopOrdered := false, noteAge := 0, last := none }
        let new := (b.services.filter fun v =>
          if s.cond.ctrl.getLsbD 4 then v.holiday else v.days.getLsbD s.clock.weekday).map rebuilt
        let lapsed (e : RunEntry) : Bool :=
          decide ((e.state = .planned ∨ e.state = .running ∨ e.state = .stale ∨ e.state = .arriving)
            ∧ expectedOf false e + s.settings.lapseWindow ≤ s.clock.minute)
        let gone (q : StopReq) : Bool :=
          new.any (fun e => lapsed e && decide (e.svc.id = q.id ∧ e.day = q.day))
            || s.tt.entries.any (fun e => decide (e.svc.id = q.id ∧ e.day = q.day)
              && !new.any fun n => decide (n.svc.id = e.svc.id))
        ∃ u, exec (.loadEnd d [k, v1, v0]) s = .next (answer d 0x03 .committed [k, v1, v0] u)
          ∧ u.tt = { s.tt with
              running := some b, expired := false
              entries := new.map fun e => if lapsed e then { e with state := .lapsed, last := none } else e
              stopReqs := s.tt.stopReqs.filter fun q => !gone q }
          ∧ u.loader = { s.loader with timetable := none } ∧ u.clock = s.clock ∧ u.settings = s.settings ∧ u.ret = s.ret
          ∧ u.fares = s.fares
          ∧ (∀ w ∈ u.board.windows, w.live = some .departures ∨ w.live = some .nextTrain → w.marked = true)
          ∧ ∀ id day, s.sale.service = some (.train id day) →
              let ceased : Bool :=
                s.tt.entries.any (fun e => decide (e.svc.id = id ∧ e.day = day) && e.svc.sellable && liveState e.state)
                  && !(match findEntry u id day with
                       | some (_, e) => e.svc.sellable && liveState e.state
                       | none => false)
              (ceased = false → u.sale.service = s.sale.service)
              ∧ (ceased = true →
                (s.sale.state = .selecting ∨ s.sale.state = .quoted →
                  u.sale.service = some .any ∧ ∃ told more, u.out = s.out ++ told ++ .console (.serviceGone id) :: more)
                ∧ (s.sale.state = .paying →
                  u.sale = { s.sale with service := some .any, request := false }
                  ∧ u.out = s.out ++ [.console (.serviceGone id)])
                ∧ (s.sale.state = .issuing ∨ s.sale.state = .settling →
                  u.sale.service = s.sale.service ∧ u.sale.quote = s.sale.quote ∧ u.out = s.out)))
    ∧ (∀ rs table, kind = .windows → assemble readWindow data = some rs → validateWindows rs = .ok table →
        let rows (p : Nat) : Option Nat := (table.panels.find? fun e => decide (e.panel = p) && e.present).map (·.rows)
        ∃ u, exec (.loadEnd d [k, v1, v0]) s = .next (answer d 0x03 .committed [k, v1, v0] u)
          ∧ u = { s with
              loader := { s.loader with windows := none }
              board := { s.board with
                version := a.version, panels := table.panels, windows := table.windows, banners := table.banners }
              panels := { s.panels with
                recs := u.panels.recs
                inFlight := (match s.panels.inFlight with
                  | some (p, m) => if (rows p).isSome then some (p, m) else none
                  | none => none) } }
          ∧ (∀ w ∈ table.windows, w.shown = true ∧ w.cands = [] ∧ (w.live.isSome = true → w.marked = true))
          ∧ u.panels.recs.length = s.panels.recs.length
          ∧ ∀ (i : Nat) (r : PanelRec), s.panels.recs[i]? = some r →
              u.panels.recs[i]? = some
                (match rows (i + 1) with
                 | some n => { r with
                     present := true, marks := List.replicate n true, modePending := true
                     eff := effectiveMode u (i + 1) r.mode
                     silent := r.present && r.silent, miss := if r.present then r.miss else 0
                     pingTimer := if r.present then r.pingTimer else none, pingDue := r.present && r.pingDue }
                 | none =>
                   if r.present then { r with
                     present := false, marks := [], silent := false, miss := 0, modePending := false, pingTimer := none
                     pingDue := false }
                   else r))
    ∧ (∀ rs why, kind = .windows → assemble readWindow data = some rs → validateWindows rs = .error why →
        refused why)

/-- R29, R118, R144: a FARES load that passes its validation replaces the stop and fare table whole, marks every LIVE window, and
SALES_OPEN is evaluated. A sale in SELECTING or QUOTED with every choice made is quoted again, at the new table; any other sale keeps the
quote it has. That the ANSWER joins the queue after an ALERT of the quote's fault is the model's choice (log entry 52). -/
def Obligations.FaresCommit : Prop :=
  ∀ (d : Dest) (v1 v0 : Byte) (a : Staging) (data : List (List Byte)) (rs : List RawFare) (f : FareTable) (s : State),
    s.powered = true → s.cond.salesOpen = salesOpenNow s → s.loader.fares = some a → a.version = beNat [v1, v0] →
    a.segments = data.map some → assemble readFare data = some rs → validateFares a.version rs = .ok f →
    let put : State := { s with
      loader := { s.loader with fares := none }, fares := some f
      board := { s.board with windows := s.board.windows.map fun w => if w.live.isSome then { w with marked := true } else w } }
    let choosing := s.sale.state = .selecting ∨ s.sale.state = .quoted
    ∃ u, exec (.loadEnd d [2, v1, v0]) s = .next (answer d 0x03 .committed [2, v1, v0] u)
      ∧ u.cond.salesOpen = salesOpenNow u
      ∧ f.version = a.version
      ∧ (¬ choosing ∨ s.sale.dest = none ∨ s.sale.product = none ∨ s.sale.party = none →
          u = { put with cond := { s.cond with salesOpen := u.cond.salesOpen } })
      ∧ ∀ dest p n, choosing → s.sale.dest = some dest → s.sale.product = some p → s.sale.party = some n →
          let ask : QuoteReq := ⟨dest, s.sale.service.getD .any, p, n⟩
          (∀ q, quoteFor put ask = .quote q → q.version = a.version
            ∧ u = { put with
                sale := { s.sale with quote := some q, state := .quoted }
                out := s.out ++ [.console (.quote q.adult q.child q.conc q.total q.band)]
                cond := { s.cond with salesOpen := u.cond.salesOpen } })
          ∧ ∀ why fault, quoteFor put ask = .refused why fault →
              let seen := match fault with | some x => captureFault x put | none => put
              u = { seen with
                sale := { s.sale with quote := none, state := .selecting }
                out := s.out ++ [.console (.refused (.quote why))]
                cond := { seen.cond with salesOpen := u.cond.salesOpen } }

/-- R33 to R36, Table 2-7: the ranges, places and defaults of the settings (`SettingsTable`), each with a place of its own. A SETTING
takes its value clamped to its range; the journal thresholds stay apart, and a changed setting is compared at once with what rests on
it: a timer past its new limit expires, and the wake lead, deny age limit, low marks and journal thresholds have their conditions
evaluated. The reference of the answer to an unknown id is free (log entry 10); that a value already held changes nothing is the model's
reading (log entry 26); that the ANSWER joins the queue after a report that the changed setting brings is its choice (log entry 52). -/
def Obligations.SettingTaken : Prop :=
  ∀ (d : Dest) (id v1 v0 : Byte) (s : State), s.powered = true →
    SettingsTable s.settings
    ∧ (∀ i j v, settingRange i ≠ none → settingRange j ≠ none →
        settingValue (putSetting i v s.settings) j = if j = i then v else settingValue s.settings j)
    ∧ (settingRange id.toNat = none →
      ∃ ref u, exec (.setting d [id, v1, v0]) s = .next (answer d 0x04 (.refused .kind) ref u)
        ∧ u = { s with freeCount := u.freeCount })
    ∧ (∀ range, settingRange id.toNat = some range →
        let v := beNat [v1, v0]
        let w := max range.1 (min v range.2)
        ((id.toNat = 19 ∧ s.settings.journalL2 ≤ w) ∨ (id.toNat = 20 ∧ w ≤ s.settings.journalL1) →
          exec (.setting d [id, v1, v0]) s =
            .next (answer d 0x04 (.refused .field) (id :: beBytes 2 (settingValue s.settings id.toNat)) s))
        ∧ (¬ ((id.toNat = 19 ∧ s.settings.journalL2 ≤ w) ∨ (id.toNat = 20 ∧ w ≤ s.settings.journalL1)) →
          ∃ u, exec (.setting d [id, v1, v0]) s =
              .next (answer d 0x04 (if w = v then .accepted else .clamped) (id :: beBytes 2 w) u)
            ∧ u.settings = putSetting id.toNat w s.settings
            ∧ (settingValue s.settings id.toNat = w → u = s)
            ∧ (id.toNat ∈ [4, 5, 6, 10, 11, 12, 18] → u = { s with settings := putSetting id.toNat w s.settings })
            ∧ (id.toNat = 19 ∨ id.toNat = 20 → settingValue s.settings id.toNat ≠ w →
                u.jrn.l1 = l1Now u ∧ u.jrn.l2 = l2Now u)
            ∧ (settingValue s.settings id.toNat ≠ w →
              let put : State := { s with settings := putSetting id.toNat w s.settings }
              let expires (c : Instr) (timer : Timer) (limit : Nat) : Prop :=
                ((∃ n, timer = some n ∧ limit ≤ n) → exec c put = .next u)
                ∧ ((∀ n, timer = some n → n < limit) → u = put)
              (id.toNat = 1 → s.line.linkLost = false → expires .linkSilenceExpiry s.line.linkTimer (w * 60))
              ∧ (id.toNat = 2 → expires .ackTimerExpiry s.jrn.ackTimer w)
              ∧ (id.toNat = 3 → expires .inactivityExpiry s.sale.inactivity w)
              ∧ (id.toNat = 8 → expires .reportTimerExpiry s.cond.reportTimer w)
              ∧ (id.toNat = 7 → u = { put with panels := { s.panels with recs := u.panels.recs } }
                  ∧ ∀ (i : Nat) (r : PanelRec), u.panels.recs[i]? = some r → r.present = true →
                      r.eff = effectiveMode u (i + 1) r.mode)
              ∧ (id.toNat = 9 → u.pay.denyOld = denyOldNow u
                  ∧ (s.pay.denyOld ≠ u.pay.denyOld →
                      u.pay.cardAvail = cardAvailNow u ∧ u.cond.salesOpen = salesOpenNow u))
              ∧ (id.toNat = 13 → u.jrn.noSerials = noSerialsNow u ∧ u.jrn.serialsLow = serialsLowNow u)
              ∧ (id.toNat ∈ [14, 15, 16, 17] →
                  u.pay.low10 = decide (s.ret.tubes.c10 ≤ u.settings.tubeLow10)
                  ∧ u.pay.low20 = decide (s.ret.tubes.c20 ≤ u.settings.tubeLow20)
                  ∧ u.pay.low50 = decide (s.ret.tubes.c50 ≤ u.settings.tubeLow50)
                  ∧ u.pay.low100 = decide (s.ret.tubes.c100 ≤ u.settings.tubeLow100)))))

/-! ### Clock, cadence, timetable (chapters 3 and 4) -/

/-- R16, R32, R41 to R46: a CLOCK SET outside its ranges, for a lower day, for the minute the clock stands at, and its four moves: the start,
a later day, forward by 1 to 15 minutes, and a jump. A move forward makes some of its ticks, how many is free (log entry 13); the rest are
made by the ticks that follow, each of them the next of the set's own, and with the last the clock takes the second and the answer is
given. A CLOCK SET that comes meanwhile waits until then, one that its checks refuse too, so that its answer joins behind that of the first
(R16; answers to frames of other kinds do not wait, log entry 49). A body of another length is refused in the same way (R32). A set to a
later day makes one day end, with the works of the timetable (R72 to
R74, as `TimetableDayEnded` spells them), the tally and the journal (R188), before its one tick. The weekday stays in a set of the same day
(log entry 37). -/
def Obligations.ClockSetTaken : Prop :=
  ∀ (d : Dest) (d1 d0 w m1 m0 sec : Byte) (s : State), s.powered = true →
    let body := [d1, d0, w, m1, m0, sec]
    let day := beNat [d1, d0]
    let minute := beNat [m1, m0]
    let kept (u : State) : Prop :=
      u.settings = s.settings ∧ u.fares = s.fares ∧ u.loader = s.loader ∧ u.pay.deny = s.pay.deny
        ∧ u.line = { s.line with ownQ := u.line.ownQ, ownDrops := u.line.ownDrops }
    let ticked (n : Nat) (m : ClockMove) (u : State) : Prop :=
      kept u ∧ u.ret = s.ret ∧ u.pay.denyAge = min (s.pay.denyAge + n) 65535
        ∧ u.clock = { s.clock with
            minute := s.clock.minute + n, highMark := highMarkAfter s.clock.highMark (s.clock.minute + n)
            second := if n = m.left then m.second else s.clock.second
            move := if n = m.left then none else some { m with left := m.left - n } }
    let inRange := w.toNat ≤ 6 ∧ minute ≤ 1439 ∧ sec.toNat ≤ 59
    let refusedOrWaits (bytes : List Byte) : Prop :=
      (s.clock.move = none → exec (.clockSet d bytes) s = .next (answer d 0x05 (.refused .field) [0, 0, 0] s))
      ∧ (s.clock.move.isSome = true →
          exec (.clockSet d bytes) s = .next { s with clock := { s.clock with waiting := s.clock.waiting ++ [(d, none)] } })
    (¬ inRange → refusedOrWaits body)
    ∧ (∀ bytes : List Byte, bytes.length ≠ 6 → refusedOrWaits bytes)
    ∧ (∀ (e : Dest) (rest : List (Dest × Option ClockFields)), s.clock.move = none →
        takeWaiting ((e, none) :: rest) s = takeWaiting rest (answer e 0x05 (.refused .field) [0, 0, 0] s))
    ∧ (∀ m, s.clock.move = some m → 1 ≤ m.left →
      (∃ u n, 1 ≤ n ∧ n ≤ m.left ∧ ticked n m u
        ∧ exec .minuteTick s = .next
            (if n = m.left then takeWaiting s.clock.waiting (answer m.to_ 0x05 .accepted [0, 0, 0] u) else u))
      ∧ (s.pending = [] → step s = exec .minuteTick s)
      ∧ (inRange →
        exec (.clockSet d body) s = .next { s with
          clock := { s.clock with waiting := s.clock.waiting ++ [(d, some ⟨day, w.toNat, minute, sec.toNat⟩)] } }))
    ∧ (inRange → s.clock.move = none → s.clock.waiting = [] →
      (s.clock.valid = false →
        ∃ u, exec (.clockSet d body) s = .next (answer d 0x05 .accepted [0, 0, 0] u) ∧ kept u ∧ u.ret = s.ret
          ∧ u.pay.denyAge = min (s.pay.denyAge + 1) 65535
          ∧ u.clock = { s.clock with
              day := day, weekday := w.toNat, minute := minute, second := sec.toNat, valid := true
              highMark := highMarkAfter s.clock.highMark minute })
      ∧ (s.clock.valid = true → day < s.clock.day →
        exec (.clockSet d body) s = .next (answer d 0x05 (.refused .order) [0, 0, 0] s))
      ∧ (s.clock.valid = true → s.clock.day < day →
        ∃ u, exec (.clockSet d body) s = .next (answer d 0x05 .accepted [0, 0, 0] u) ∧ kept u
          ∧ u.pay.tally = [] ∧ u.pay.denyAge = min (s.pay.denyAge + 1) 65535
          ∧ u.clock = { s.clock with
              day := day, weekday := w.toNat, minute := minute, second := sec.toNat, jumped := false
              highMark := some minute }
          ∧ u.ret = (journalDayEnd s.clock.day s.clock.minute s).ret
          ∧ TimetableDayEnded s day w.toNat minute u
          ∧ u.tt.entries =
              (freshRunning u.tt.running (s.cond.ctrl.getLsbD 4) day w.toNat).map (entryAfterTick s false minute))
      ∧ (s.clock.valid = true → day = s.clock.day → minute = s.clock.minute →
        exec (.clockSet d body) s =
          .next (answer d 0x05 .accepted [0, 0, 0] { s with clock := { s.clock with second := sec.toNat } }))
      ∧ (s.clock.valid = true → day = s.clock.day → s.clock.minute < minute → minute ≤ s.clock.minute + 15 →
        let m : ClockMove := ⟨minute - s.clock.minute, sec.toNat, d⟩
        ∃ u n, 1 ≤ n ∧ n ≤ m.left ∧ ticked n m u
          ∧ exec (.clockSet d body) s = .next (if n = m.left then answer d 0x05 .accepted [0, 0, 0] u else u))
      ∧ (s.clock.valid = true → day = s.clock.day → (minute < s.clock.minute ∨ s.clock.minute + 15 < minute) →
        ∃ u, exec (.clockSet d body) s = .next (answer d 0x05 .accepted [0, 0, 0] u) ∧ kept u ∧ u.ret = s.ret
          ∧ u.pay.denyAge = min (s.pay.denyAge + 1) 65535
          ∧ (s.clock.jumped = false → u.cond.pending.getLsbD 13 = true)
          ∧ u.clock = { s.clock with
              minute := minute, second := sec.toNat, jumped := true
              highMark := highMarkAfter s.clock.highMark minute }))

/-- R38, R39, R46, R70, R71, R78, R81, R93, R108, R143, R169, R200: a minute tick inside the day, and none while CLOCK_VALID is absent or
the second would not pass 59. Every running and holdover entry ages by a minute, a RUNNING entry of the stale window's age becomes
STALE, and an entry past its lapse window becomes LAPSED, loses its stop request (STOP_UNCONFIRMED where it was LODGED) and is told to
the sale that has chosen it. CLOCK, NEXT_TRAIN and DEPARTURES windows are marked, the report timer counts, and each present panel
has the effective mode that its windows and entries give, where the windows stand in rising order of number, as they do in every run
(`BoardSafe`, which `ListsAndStoresKept` keeps); that this is evaluated within the tick is the model's choice (log entry 40), and that
the tick is made at second 59 right behind a CLOCK SET too (log entry 48), and that no other timer counts a second with it (log entry
51). -/
def Obligations.MinuteTick : Prop :=
  ∀ s : State, s.powered = true → s.clock.move = none →
    (s.clock.valid = false ∨ s.clock.second ≠ 59 → exec .minuteTick s = .next s)
    ∧ (s.clock.valid = true → s.clock.second = 59 → s.clock.minute < 1439 →
      let minute := s.clock.minute + 1
      let lapses (held : Bool) (q : StopReq) (e : RunEntry) : Bool :=
        decide (e.svc.id = q.id ∧ e.day = q.day ∧ e.state ≠ .lapsed ∧ (entryAfterTick s held minute e).state = .lapsed)
      let lapsesNow (held : Bool) (e : RunEntry) : Bool :=
        decide (e.state ≠ .lapsed ∧ (entryAfterTick s held minute e).state = .lapsed)
      let gone (id day : Nat) : Bool :=
        let ends (held : Bool) (e : RunEntry) : Bool :=
          decide (e.svc.id = id ∧ e.day = day) && e.svc.sellable && lapsesNow held e
        s.tt.holdover.any (ends true) || s.tt.entries.any (ends false)
      let kept := s.tt.stopReqs.filter fun q =>
        !(s.tt.holdover.any (lapses true q) || s.tt.entries.any (lapses false q))
      let lodged := kept.any fun q => decide (q.state = .lodged)
      let old := denyOldNow { s with pay := { s.pay with denyAge := min (s.pay.denyAge + 1) 65535 } }
      ∃ t, exec .minuteTick s = .next t
        ∧ t.clock = { s.clock with
            second := 0, minute := minute, highMark := highMarkAfter s.clock.highMark minute }
        ∧ t.tt = { s.tt with
            holdover := s.tt.holdover.map (entryAfterTick s true minute)
            entries := s.tt.entries.map (entryAfterTick s false minute)
            stopReqs := kept }
        ∧ t.pay.denyAge = min (s.pay.denyAge + 1) 65535 ∧ t.pay.denyOld = old
        ∧ t.pay.deny = s.pay.deny ∧ t.pay.tally = s.pay.tally
        ∧ t.settings = s.settings ∧ t.fares = s.fares ∧ t.loader = s.loader ∧ t.ret = s.ret
        ∧ t.line = { s.line with ownQ := t.line.ownQ, ownDrops := t.line.ownDrops }
        ∧ t.board.store = s.board.store ∧ t.board.panels = s.board.panels ∧ t.board.banners = s.board.banners
        ∧ t.cond.masks = s.cond.masks
        ∧ t.board.windows.map (fun w => { w with marked := false, shown := false })
            = s.board.windows.map (fun w => { w with marked := false, shown := false })
        ∧ (∀ w ∈ t.board.windows,
            w.live = some .clock ∨ w.live = some .nextTrain ∨ w.live = some .departures → w.marked = true)
        ∧ (s.clock.cadence = [] → t.board.windows.map Window.shown = s.board.windows.map Window.shown)
        ∧ (∀ n, s.cond.reportTimer = some n → lodged = true →
            t.cond.reportTimer = some (if s.settings.reportEvery ≤ n + 1 then 0 else n + 1))
        ∧ (s.cond.reportTimer.isSome = hasLodged s → lodged = false → t.cond.reportTimer = none)
        ∧ t.panels.recs.length = s.panels.recs.length
        ∧ (∀ (i : Nat) (r : PanelRec), s.panels.recs[i]? = some r → ∃ r', t.panels.recs[i]? = some r' ∧ r'.present = r.present
            ∧ (r'.eff ≠ r.eff → r'.modePending = true ∧ (r.eff = .off → ∀ m ∈ r'.marks, m = true))
            ∧ (s.board.windows.Pairwise (fun a b => a.number < b.number) →
                r.present = true → (∀ e ∈ s.tt.holdover, lapsesNow true e = false) →
                (∀ e ∈ s.tt.entries, lapsesNow false e = false) → r'.eff = effectiveMode t (i + 1) r'.mode))
        ∧ (∀ q ∈ s.tt.stopReqs, s.tt.holdover.any (lapses true q) = true ∨ s.tt.entries.any (lapses false q) = true →
            s.tt.stopReqs.find? (fun x => decide (x.id = q.id ∧ x.day = q.day)) = some q → q.state = .lodged →
            t.cond.pending.getLsbD 12 = true)
        ∧ (∀ id day, s.clock.cadence = [] → old = s.pay.denyOld → s.sale.service = some (.train id day) →
            (gone id day = false → t.sale.service = s.sale.service)
            ∧ (gone id day = true →
              (s.sale.state = .selecting ∨ s.sale.state = .quoted →
                t.sale.service = some .any ∧ ∃ told more, t.out = s.out ++ told ++ .console (.serviceGone id) :: more)
              ∧ (s.sale.state = .paying →
                t.sale = { s.sale with service := some .any, request := false }
                ∧ t.out = s.out ++ [.console (.serviceGone id)])
              ∧ (s.sale.state = .issuing ∨ s.sale.state = .settling → t.sale = s.sale ∧ t.out = s.out))))

/-- R40, R72 to R74, R170: the day end of ordinary running: the clock, the entries held over and the rest lapsed, with their stop requests
and the sale that has chosen one of them, the choice of bank with the notice of a rise of TIMETABLE_EXPIRED, the running table built for
the new day, the spend tally, and the tick at minute 0. -/
def Obligations.DayEnd : Prop :=
  ∀ s : State, s.powered = true → s.clock.move = none → s.clock.valid = true → s.clock.second = 59 →
    s.clock.minute = 1439 → s.clock.day ≤ 65535 →
    let day := if s.clock.day = 65535 then 0 else s.clock.day + 1
    let weekday := if s.clock.weekday = 6 then 0 else s.clock.weekday + 1
    ∃ t, exec .minuteTick s = .next t
      ∧ t.clock = { s.clock with
          second := 0, minute := 0, day := day, weekday := weekday, jumped := false, highMark := some 0 }
      ∧ t.pay.tally = [] ∧ t.pay.denyAge = min (s.pay.denyAge + 1) 65535 ∧ t.pay.deny = s.pay.deny
      ∧ t.settings = s.settings ∧ t.fares = s.fares ∧ t.loader = s.loader
      ∧ t.line = { s.line with ownQ := t.line.ownQ, ownDrops := t.line.ownDrops }
      ∧ TimetableDayEnded s day weekday 0 t
      ∧ (s.clock.cadence = [] →
          t.tt.entries = (freshRunning t.tt.running (s.cond.ctrl.getLsbD 4) day weekday).map (entryAfterTick s false 0))

/-- R188, Table 10-5: the four cases of the journal's work at a day end, as the journal unit does it, and as MINUTE_TICK leaves the
retained store at the end of day while no sale is in progress. Figures stop at their greatest value (log entry 19). -/
def Obligations.JournalAtDayEnd : Prop :=
  ∀ (day minute : Nat) (s : State),
    let figures := s.ret.totals
    (journalDayEnd day minute s).ret =
        (match s.ret.pendingClose with
         | some p => { s.ret with
             totals := .zero
             pendingClose := some
               { totals :=
                   { sales := min (p.totals.sales + figures.sales) 65535
                     coin := min (p.totals.coin + figures.coin) 4294967295
                     card := min (p.totals.card + figures.card) 4294967295
                     voids := min (p.totals.voids + figures.voids) 65535
                     carried := min (p.totals.carried + (1 + figures.carried)) 65535 }
                 day := day, minute := minute } }
         | none =>
           if (openRec s).isSome then
             { s.ret with pendingClose := some ⟨figures, day, minute⟩, totals := .zero }
           else if fill s < 2048 ∧ s.ret.nextSeq < (if s.jrn.reserved then 4294967294 else 4294967295) then
             { s.ret with
               ring := Memory.write none ((s.ret.nextSeq - 1) % 2048)
                 (some (.dayClose s.ret.nextSeq ⟨figures, day, minute⟩)) s.ret.ring
               nextSeq := s.ret.nextSeq + 1
               totals := .zero }
           else { s.ret with totals := { figures with carried := min (figures.carried + 1) 65535 } })
    ∧ (s.powered = true → s.clock.move = none → s.clock.valid = true → s.clock.second = 59 → s.clock.minute = 1439 →
        s.sale.state = .idle → ∃ t, exec .minuteTick s = .next t ∧ t.ret = (journalDayEnd s.clock.day 1439 s).ret)

/-- R50 to R56, R91: the cadence runs at a tick above the high mark, over the table in order. One entry of the run acts where weekday,
holiday rule, minute and condition hold as the flags stand when it is reached, and what its action does is what the FLAGS or PANEL
MODE frame does, the SHOW or HIDE of a window, a CADENCE report, or the fault of a panel or window that is not present. At a tick the
control flags, the shown windows and the panel modes are those that the acting entries leave, here for conditions on flags that no
other work of a tick can change. That the unassigned bits 13 to 15 of the flag word read as clear is the model's choice (log entry 44). -/
def Obligations.CadenceRun : Prop :=
  (∀ s : State, cadenceTick s =
    if (∀ h, s.clock.highMark = some h → h < s.clock.minute) then
      runEntries 0 s.clock.cadence { s with clock := { s.clock with highMark := some s.clock.minute } }
    else s)
  ∧ (∀ s : State, s.powered = true →
    let flag (n : Nat) : Bool :=
      match n with
      | 16 => s.clock.valid | 17 => s.clock.jumped | 18 => s.line.linkLost | 19 => s.jrn.l1 | 20 => s.jrn.l2
      | 21 => s.jrn.noSerials | 22 => s.pay.low10 | 23 => s.printerFault | 24 => s.pay.denyOld | 25 => s.tt.expired
      | 26 => s.cond.faultRec.isSome | 27 => decide (s.sale.state ≠ .idle) | 28 => s.cond.salesOpen
      | n => s.cond.ctrl.getLsbD n
    ∀ (i : Nat) (e : CadenceEntry) (es : List CadenceEntry),
      (∀ n b, e.condition = some (n, b) → n ≤ 28) →
      let acts : Bool :=
        e.weekdays.getLsbD s.clock.weekday
          && (match e.holiday with
              | .any => true
              | .notOnHoliday => !s.cond.ctrl.getLsbD 4
              | .onlyOnHoliday => s.cond.ctrl.getLsbD 4)
          && decide (BitVec.ofNat 11 s.clock.minute &&& e.mask = e.value &&& e.mask)
          && (match e.condition with
              | none => true
              | some (n, b) => decide (flag n = b))
      let u := runEntries i [e] s
      let fault : State := captureFault ⟨.absent, .cadence, i, s.clock.day, s.clock.minute⟩ s
      let judged (w : Window) (p : Nat) : Bool :=
        decide (w.panel = p ∧ (w.live = some .departures ∨ w.live = some .nextTrain))
      let rows (w : Window) (p n : Nat) : Prop := p = w.panel ∧ w.first ≤ n ∧ n < w.first + w.length
      runEntries i (e :: es) s = runEntries (i + 1) es u
      ∧ (acts = false → u = s)
      ∧ (acts = true →
        (∀ f, e.action = .flagsSet f → exec (.flags .all (1 :: beBytes 4 f.toNat)) s = .next u)
        ∧ (∀ f, e.action = .flagsClear f → exec (.flags .all (2 :: beBytes 4 f.toNat)) s = .next u)
        ∧ (∀ p m, e.action = .panelMode p m →
          ((∃ x ∈ s.board.panels, x.panel = p ∧ x.present = true) → 1 ≤ p → p ≤ 6 →
            exec (.panelMode .all [BitVec.ofNat 8 p, match m with | .off => 0 | .dim => 1 | .on => 2]) s = .next u)
          ∧ (¬ (∃ x ∈ s.board.panels, x.panel = p ∧ x.present = true) → u = fault))
        ∧ (∀ n, e.action = .windowShow n ∨ e.action = .windowHide n →
            s.board.windows.find? (fun w => decide (w.number = n)) = none → u = fault)
        ∧ (∀ n w, e.action = .windowShow n → s.board.windows.find? (fun w => decide (w.number = n)) = some w →
            u = { s with
              board := { s.board with windows := s.board.windows.map fun x =>
                if x.number = n then { x with shown := true, marked := x.marked || x.live.isSome } else x }
              panels := u.panels }
            ∧ PanelsFollow s u (judged w) (rows w))
        ∧ (∀ n w, e.action = .windowHide n → s.board.windows.find? (fun w => decide (w.number = n)) = some w →
            (w.shown = false → u = s)
            ∧ (w.shown = true →
              u = { s with
                board := { s.board with windows := s.board.windows.map fun x =>
                  if x.number = n then { x with shown := false } else x }
                panels := u.panels }
              ∧ PanelsFollow s u (judged w) (rows w)))
        ∧ (e.action = .sendReport → u =
            if s.cond.ctrl.getLsbD 10 then handOwn .haltReport (reportBody .cadence s) s else s)))
  ∧ ∀ s : State, s.powered = true → s.clock.move = none → s.clock.valid = true → s.clock.second = 59 →
    s.clock.minute < 1439 → s.board.windows.Pairwise (fun a b => a.number < b.number) →
    (∀ e ∈ s.clock.cadence, ∀ n b, e.condition = some (n, b) → n < 16 ∨ n ∈ [16, 17, 18, 21, 22, 23, 25]) →
    let minute := s.clock.minute + 1
    let stands (c : BitVec 13) (n : Nat) : Bool :=
      match n with
      | 16 => s.clock.valid | 17 => s.clock.jumped | 18 => s.line.linkLost | 21 => s.jrn.noSerials | 22 => s.pay.low10
      | 23 => s.printerFault | 25 => s.tt.expired | n => c.getLsbD n
    let acts (c : BitVec 13) (e : CadenceEntry) : Bool :=
      e.weekdays.getLsbD s.clock.weekday
        && (match e.holiday with
            | .any => true
            | .notOnHoliday => !c.getLsbD 4
            | .onlyOnHoliday => c.getLsbD 4)
        && decide (BitVec.ofNat 11 minute &&& e.mask = e.value &&& e.mask)
        && (match e.condition with
            | none => true
            | some (n, b) => decide (stands c n = b))
    let run (x : BitVec 13 × List Window × List PanelRec) (e : CadenceEntry) : BitVec 13 × List Window × List PanelRec :=
      if acts x.1 e then
        (match e.action with
         | .flagsSet f => (x.1 ||| f, x.2.1, x.2.2)
         | .flagsClear f => (x.1 &&& ~~~f, x.2.1, x.2.2)
         | .windowShow n => (x.1, x.2.1.map fun w => if w.number = n then { w with shown := true } else w, x.2.2)
         | .windowHide n => (x.1, x.2.1.map fun w => if w.number = n then { w with shown := false } else w, x.2.2)
         | .panelMode p m =>
           if 1 ≤ p ∧ (s.board.panels.any fun y => decide (y.panel = p) && y.present) = true then
             (x.1, x.2.1, x.2.2.modify (p - 1) fun r => { r with mode := m })
           else x
         | .sendReport => x)
      else x
    let left := s.clock.cadence.foldl run (s.cond.ctrl, s.board.windows, s.panels.recs)
    ∃ t, exec .minuteTick s = .next t
      ∧ (s.clock.highMark = none ∨ (∃ h, s.clock.highMark = some h ∧ h < minute) →
          t.cond.ctrl = left.1 ∧ t.board.windows.map Window.shown = left.2.1.map Window.shown
          ∧ t.panels.recs.map PanelRec.mode = left.2.2.map PanelRec.mode)
      ∧ ((∃ h, s.clock.highMark = some h ∧ minute ≤ h) →
          t.cond.ctrl = s.cond.ctrl ∧ t.board.windows.map Window.shown = s.board.windows.map Window.shown
          ∧ t.panels.recs.map PanelRec.mode = s.panels.recs.map PanelRec.mode)

/-- R65 to R69, R77, R78, R81, R94, R143, Table 4-3: the notes of a RUNNING UPDATE are taken one after another, and a body that does not
hold its count of notes is discarded. A note that is not applied is counted. One that finds its entry, in the running table or in the
holdover list, is ignored, repeats the last content, or is applied with the state and delay of Table 4-3. A note with stop ordered yes
confirms the stop request; a service that departs or is cancelled loses it, and a sale that has chosen it and is not yet paid goes on
as a sale to ANY. That a note which both confirms and removes confirms first is the model's choice (log entry 41), and that a yes/no
byte above 1 reads freely too (log entry 11). -/
def Obligations.RunningNotes : Prop :=
  ∀ (d : Dest) (i1 i0 d1 d0 k l1 l0 p y : Byte) (held : Bool) (s : State), s.powered = true →
    let id := beNat [i1, i0]
    let one : Instr := .runningUpdate d [1, i1, i0, d1, d0, k, l1, l0, p, y]
    let previous := if s.clock.day = 0 then 65535 else s.clock.day - 1
    let list (u : State) : List RunEntry := if held then u.tt.holdover else u.tt.entries
    let addressed := if held then beNat [d1, d0] = previous ∧ previous ≠ s.clock.day else beNat [d1, d0] = s.clock.day
    let found := (list s).find? fun x => decide (x.svc.id = id)
    let uncounted : Prop := exec one s =
      .next { s with tt := { s.tt with unknownNotes := min (s.tt.unknownNotes + 1) 65535 } }
    let delay := max (-15) (min 240 (signed16 (beNat [l1, l0])))
    let platform := if 4 < p.toNat then 0 else p.toNat
    let stop := readYesNo y
    (exec (.runningUpdate d []) s = .next s)
    ∧ (∀ (n : Byte) (rest : List Byte),
        (22 < n.toNat ∨ rest.length ≠ 9 * n.toNat → exec (.runningUpdate d (n :: rest)) s = .next s)
        ∧ (1 ≤ n.toNat → n.toNat ≤ 22 → rest.length = 9 * n.toNat →
            ∃ u, exec (.runningUpdate d (1 :: rest.take 9)) s = .next u
              ∧ exec (.runningUpdate d (n :: rest)) s = exec (.runningUpdate d ((n - 1) :: rest.drop 9)) u))
    ∧ (s.clock.valid = false ∨ (beNat [d1, d0] ≠ s.clock.day ∧ beNat [d1, d0] ≠ previous)
        ∨ (addressed ∧ found = none) ∨ noteKindOfByte k = none → uncounted)
    ∧ ∀ (kind : NoteKind) (e : RunEntry), s.clock.valid = true → addressed → noteKindOfByte k = some kind → found = some e →
      let content : NoteContent := ⟨kind, delay, platform, stop⟩
      let own (q : StopReq) : Bool := decide (q.id = id ∧ q.day = e.day)
      let put (x : RunEntry) (u : Timetable) : Timetable :=
        if held then { u with holdover := u.holdover.map fun z => if z.svc.id = id then x else z }
        else { u with entries := u.entries.map fun z => if z.svc.id = id then x else z }
      (noteTable s.clock.minute s.settings.lapseWindow held e kind delay = none → exec one s = .next s)
      ∧ ∀ st dl, noteTable s.clock.minute s.settings.lapseWindow held e kind delay = some (st, dl) →
        (e.last = some content → exec one s = .next { s with tt := put { e with noteAge := 0 } s.tt })
        ∧ (e.last ≠ some content →
          let new : RunEntry := { e with
            state := st, delay := dl, platform := if platform = 0 then e.platform else platform
            stopOrdered := stop, noteAge := 0, last := some content }
          let ended := st = .departed ∨ st = .cancelled
          let ceased := e.svc.sellable = true ∧ liveState e.state = true ∧ ended
          let chosen := s.sale.service = some (.train id e.day)
          ∃ t, exec one s = .next t
            ∧ t.tt = { put new s.tt with
                stopReqs :=
                  if ended then s.tt.stopReqs.filter fun q => !own q
                  else if stop then s.tt.stopReqs.map fun q => if own q then { q with state := .ordered } else q
                  else s.tt.stopReqs }
            ∧ (∀ q, ended → stop = false → s.tt.stopReqs.find? own = some q → q.state = .lodged →
                t.cond.pending.getLsbD 12 = true)
            ∧ (¬ ended ∨ stop = true → ¬ ceased → t.cond.pending = s.cond.pending)
            ∧ t.clock = s.clock ∧ t.settings = s.settings ∧ t.ret = s.ret ∧ t.fares = s.fares ∧ t.loader = s.loader
            ∧ t.jrn = s.jrn ∧ t.pay = s.pay ∧ t.panels = s.panels ∧ t.cond.ctrl = s.cond.ctrl
            ∧ t.line = { s.line with ownQ := t.line.ownQ, ownDrops := t.line.ownDrops }
            ∧ t.board = { s.board with windows := t.board.windows }
            ∧ t.board.windows.length = s.board.windows.length
            ∧ (∀ (i : Nat) (w : Window), s.board.windows[i]? = some w →
                ∃ w', t.board.windows[i]? = some w' ∧ w' = { w with marked := w'.marked }
                  ∧ (w.marked = true → w'.marked = true)
                  ∧ (w.live = some .departures ∨ w.live = some .nextTrain →
                      (id, e.day) ∈ w.cands
                        ∨ (findEntry t id e.day = some (held, new) ∧ w.platforms.getLsbD (new.platform - 1) = true
                            ∧ w.dirs.getLsbD (match e.svc.dir with | .up => 0 | .down => 1) = true) →
                      w'.marked = true))
            ∧ (¬ ceased → t.sale = s.sale ∧ t.out = s.out)
            ∧ (¬ chosen → t.sale.service = s.sale.service)
            ∧ (ceased → chosen →
              (s.sale.state = .selecting ∨ s.sale.state = .quoted →
                t.sale.service = some .any ∧ ∃ rest, t.out = s.out ++ .console (.serviceGone id) :: rest)
              ∧ (s.sale.state = .paying →
                t.sale = { s.sale with service := some .any, request := false }
                ∧ t.out = s.out ++ [.console (.serviceGone id)])
              ∧ (s.sale.state = .issuing ∨ s.sale.state = .settling → t.sale = s.sale ∧ t.out = s.out))
            ∧ (∀ to_, ceased → s.sale.state = .selecting ∨ s.sale.state = .quoted →
                s.sale.dest = some to_ → (id, e.day) ∈ s.sale.offer →
                t.sale.offer = (offered t to_).map fun x => (x.2.svc.id, x.2.day)))

/-! ### Board and panels (chapters 5 and 6) -/

/-- R84, R85, R90: the cells of a body, each with its code and attribute, none where one is not allowed; and a ROW WRITE:
REFUSED(FIELD), REFUSED(PROTECTED), or the row written, with a send mark on every panel row that shows it when its content changes. -/
def Obligations.RowWrite : Prop :=
  ∀ (d : Dest) (r1 r0 : Byte) (cells : List Byte) (s : State), s.powered = true → BuffersSafe s → cells.length = 80 →
    let r := beNat [r1, r0]
    let live := ∃ w ∈ s.board.windows, w.live.isSome = true ∧ w.base ≤ r ∧ r < w.base + w.length
    (cellsOf cells = none ↔ BadCells cells)
    ∧ (∀ row, cellsOf cells = some row → row.length = 40 ∧ ∀ i, i < 40 →
        row[i]? = some ⟨(cells.getD (2 * i) 0).toNat,
          match (cells.getD (2 * i + 1) 0).toNat with | 0 => .normal | 1 => .inverse | _ => .flash⟩)
    ∧ (∀ body : List Byte, body.length ≠ 82 →
      exec (.rowWrite d body) s = .next (answer d 0x07 (.refused .field) [0, 0, 0] s))
    ∧ (511 < r ∨ cellsOf cells = none →
      exec (.rowWrite d (r1 :: r0 :: cells)) s = .next (answer d 0x07 (.refused .field) [0, 0, 0] s))
    ∧ ∀ row, cellsOf cells = some row → r ≤ 511 →
      (live → exec (.rowWrite d (r1 :: r0 :: cells)) s = .next (answer d 0x07 (.refused .isProtected) [0, 0, 0] s))
      ∧ (¬ live → ∃ u, exec (.rowWrite d (r1 :: r0 :: cells)) s = .next (answer d 0x07 .accepted [0, 0, 0] u)
        ∧ storeRow u r = row ∧ (∀ q, q ≠ r → storeRow u q = storeRow s q)
        ∧ (storeRow s r = row → u = s)
        ∧ u = { s with
            board := { s.board with store := u.board.store }, panels := { s.panels with recs := u.panels.recs } }
        ∧ (storeRow s r ≠ row → ∀ p rec, panelRec s p = some rec →
            ∃ rec', panelRec u p = some rec' ∧ rec' = { rec with marks := rec'.marks }
              ∧ rec'.marks.length = rec.marks.length
              ∧ ∀ i, i < rec.marks.length →
                  (rec'.marks[i]? = some true ↔ rec.marks[i]? = some true ∨ ShowsRow s p i r)))

/-- R64, R85, R92, R94 to R103, R108: the composition of the lowest-numbered marked window. Its rows are written and no row outside it,
its mark is cleared, a window that lists trains records its candidate set, and each panel row that shows a changed row takes a send
mark; the panel of a window that lists trains has its effective mode evaluated. `row` is what each kind of window shows, with times in
local time (R1), and `faults` what each of its rows hands over, row by row: one BOARD fault for each name that the row needs and the
table does not hold. With no marked window nothing is composed. The row of "No train information" in a NEXT_TRAIN window and the marker
in cell 29 of its row A are the model's reading (DEDUCED, log entry 20), and so is the one space in a name such as "Stop 07" (DEDUCED,
log entry 31). -/
def Obligations.WindowComposed : Prop :=
  ∀ (w : Window) (k : WinKind) (l : List (Bool × RunEntry)) (s : State), s.powered = true → BuffersSafe s →
    (∀ m,
      let hour := (m + 180) / 60 % 24
      let minute := (m + 180) % 60
      hhmm m = [48 + hour / 10, 48 + hour % 10, 58, 48 + minute / 10, 48 + minute % 10])
    ∧ (displayOrder l).Perm l ∧ (displayOrder l).Pairwise (fun a b => ¬ ShownBefore b a)
    ∧ ((∀ x ∈ s.board.windows, ¬ (x.marked = true ∧ x.live.isSome = true)) → exec .composition s = .next s)
    ∧ ((s.board.windows.find? fun x => x.marked && x.live.isSome) = some w → w.live = some k →
      let line (attr : CellAttr) (cs : List Cell) : Row := (cs ++ List.replicate 40 (Cell.mk 32 attr)).take 40
      let cells (attr : CellAttr) (cs : List Nat) : List Cell := cs.map fun c => ⟨c, attr⟩
      let plain (cs : List Nat) : Row := line .normal (cells .normal cs)
      let cands := displayOrder ((allEntries s).filter fun p =>
        w.platforms.getLsbD (p.2.platform - 1) && w.dirs.getLsbD (match p.2.svc.dir with | .up => 0 | .down => 1)
          && decide (p.2.state ≠ .departed ∧ p.2.state ≠ .lapsed)
          && (decide (p.2.state ≠ .cancelled)
            || (w.inclCanc && decide
                (s.clock.minute + (if p.1 then 1440 else 0) < p.2.svc.dep + s.settings.cancelDisplay))))
      let stop (i : Nat) : Option Stop := match s.fares with | some f => f.stops[i]? | none => none
      let name (i : Nat) : List Nat :=
        match stop i with
        | some x => x.name
        | none => text "Stop " ++ [48 + i / 10 % 10, 48 + i % 10]
      let missing (i : Nat) : List TableFault :=
        match stop i with
        | some _ => []
        | none => [⟨.beyondLength, .board, i, s.clock.day, s.clock.minute⟩]
      let last (e : RunEntry) : List Nat := match e.svc.calls.getLast? with | some c => [c.1] | none => []
      let calling (e : RunEntry) : Row :=
        let whole := text "Calling at " ++ ((e.svc.calls.map fun c => name c.1).intersperse (text ", ")).flatten
        if e.svc.calls = [] then spaces
        else if whole.length ≤ 40 then plain whole
        else plain (whole.take 37 ++ text "...")
      let head (e : RunEntry) : List Cell :=
        cells .normal (hhmm e.svc.dep ++ [32] ++ ((last e).flatMap name ++ List.replicate 20 32).take 20 ++ [32, 80, 48 + e.platform]
          ++ [if e.svc.request then (if e.stopOrdered then 42 else 82) else 32])
      let status (held : Bool) (e : RunEntry) : List Cell :=
        match e.state with
        | .running => cells .normal (if e.delay ≤ 0 then text "On time" else text "Exp " ++ hhmm (expectedOf held e))
        | .stale => cells .normal (text "Exp " ++ hhmm (expectedOf held e) ++ text "?")
        | .arriving => cells .flash (text "Approaching")
        | .cancelled => cells .inverse (text "Cancelled")
        | _ => []
      let noTrain : Row := if s.tt.running = none then plain (text "No train information") else spaces
      let row (i : Nat) : Row := ((builtRows s w k)[i]?.getD (spaces, [])).1
      let faults (i : Nat) : List TableFault := ((builtRows s w k)[i]?.getD (spaces, [])).2
      (∃ t, exec .composition s = .next t
        ∧ (∀ i, i < w.length → storeRow t (w.base + i) = row i)
        ∧ (∀ q, q < w.base ∨ w.base + w.length ≤ q → storeRow t q = storeRow s q)
        ∧ t.board.windows = s.board.windows.map (fun x =>
            if x.number = w.number then { x with
              marked := false
              cands := if k = .departures ∨ k = .nextTrain then cands.map (fun p => (p.2.svc.id, p.2.day)) else x.cands }
            else x)
        ∧ t = { captureFaults ((List.range w.length).flatMap faults) s with
            board := { s.board with store := t.board.store, windows := t.board.windows }
            panels := { s.panels with recs := t.panels.recs } }
        ∧ PanelsFollow s t (fun p => decide (p = w.panel ∧ (k = .departures ∨ k = .nextTrain)))
            (fun p i => ∃ r, w.base ≤ r ∧ r < w.base + w.length ∧ storeRow t r ≠ storeRow s r ∧ ShowsRow s p i r))
      ∧ (k = .clock →
        let day := match s.clock.weekday with
          | 0 => "Monday" | 1 => "Tuesday" | 2 => "Wednesday" | 3 => "Thursday" | 4 => "Friday" | 5 => "Saturday" | _ => "Sunday"
        let shown := if s.clock.valid then hhmm s.clock.minute ++ [32] ++ text day else text "--:--"
        ∀ i, i < w.length → faults i = []
          ∧ row i = if i = (if w.reverse then w.length - 1 else 0) then plain shown else spaces)
      ∧ (k = .departures →
        let per := if w.callingRows then 2 else 1
        let cap := w.length / per
        let count := if cands.length ≤ cap then cands.length else if w.moreLine then cap - 1 else cap
        let top (j : Nat) : Nat := if w.reverse then w.length - (j + 1) * per else j * per
        let far := if w.reverse then 0 else w.length - 1
        let more := cap < cands.length ∧ w.moreLine = true
        (cands = [] → ∀ i, i < w.length → row i = if i = top 0 then noTrain else spaces)
        ∧ (∀ j p, j < count → cands[j]? = some p →
            row (top j) = (line .normal (head p.2)).take (40 - (status p.1 p.2).length) ++ status p.1 p.2
            ∧ faults (top j) = (last p.2).flatMap missing
            ∧ (w.callingRows = true →
                row (top j + 1) = calling p.2 ∧ faults (top j + 1) = p.2.svc.calls.flatMap fun c => missing c.1))
        ∧ (∀ i, i < w.length → (∀ j, j < count → i < top j ∨ top j + per ≤ i) → faults i = [])
        ∧ (more → 1 ≤ w.length → row far = plain (text "+" ++ decimal (cands.length - count) ++ text " more"))
        ∧ (cands ≠ [] → ∀ i, i < w.length → (∀ j, j < count → i < top j ∨ top j + per ≤ i) → ¬ (more ∧ i = far) →
            row i = spaces))
      ∧ (k = .nextTrain →
        let top := if w.reverse then w.length - min 3 w.length else 0
        (cands = [] → ∀ i, i < w.length → row i = (if i = top then noTrain else spaces) ∧ faults i = [])
        ∧ ∀ p rest, cands = p :: rest →
          let x := expectedOf p.1 p.2
          let soon := (p.2.state = .planned ∨ p.2.state = .running ∨ p.2.state = .stale)
            ∧ s.clock.minute ≤ x ∧ x ≤ s.clock.minute + 30
          ∀ i, i < w.length →
            row i =
              (if i = top then line .normal (head p.2)
               else if i = top + 1 then calling p.2
               else if i = top + 2 then
                 (if soon then plain (text "in " ++ decimal (x - s.clock.minute) ++ text " min")
                  else line .normal (status p.1 p.2))
               else spaces)
            ∧ faults i =
              (if i = top then (last p.2).flatMap missing
               else if i = top + 1 then p.2.svc.calls.flatMap fun c => missing c.1
               else []))
      ∧ (k = .notices →
        let inverse (cs : List Nat) : Row := line .inverse (cells .inverse cs)
        let items : List (List Row) :=
          (if s.cond.salesOpen then [] else
              [[inverse (text "Ticket sales closed -"), inverse (text "please buy on the train")]])
            ++ (if s.pay.cardAvail = false ∧ s.cond.salesOpen = true then [[plain (text "Cards not accepted")]] else [])
            ++ (if s.pay.low10 then [[plain (text "Exact fare please")]] else [])
            ++ (if s.line.linkLost then [[plain (text "Train information may be delayed")]] else [])
            ++ ((List.range 4).filter fun i => s.cond.ctrl.getLsbD (6 + i)).map fun i => [s.board.banners.getD i spaces]
        (∀ i, i < w.length → faults i = [])
        ∧ ∀ n, n ≤ items.length → (items.take n).flatten.length ≤ w.length →
          (n < items.length → w.length < (items.take (n + 1)).flatten.length) →
          let used := (items.take n).flatten.length
          (∀ j item i r, j < n → items[j]? = some item → item[i]? = some r →
            row ((if w.reverse then w.length - (items.take (j + 1)).flatten.length
              else (items.take j).flatten.length) + i) = r)
          ∧ ∀ i, i < w.length → (if w.reverse then i < w.length - used else used ≤ i) → row i = spaces))

/-- R107, R108: a PANEL MODE sets the mode of a record, and the effective mode of that panel, when present, is evaluated: a change sets
mode pending, and a change from OFF marks every row. The mode already held changes nothing, and any other panel number or mode is
discarded. A train is near to a panel as `TrainIsNear` spells it; that a CANCELLED candidate counts is the model's reading (DEDUCED, log
entry 34). -/
def Obligations.PanelModeTaken : Prop :=
  ∀ (d : Dest) (p m : Byte) (r : PanelRec) (s : State), s.powered = true →
    (¬ (1 ≤ p.toNat ∧ p.toNat ≤ 6 ∧ m.toNat ≤ 2) → exec (.panelMode d [p, m]) s = .next s)
    ∧ (TimetableSafe s → ∀ panel, trainNear s panel = true ↔ TrainIsNear s panel)
    ∧ (∀ panel mode, effectiveMode s panel mode =
        if mode = .off ∨ (s.cond.ctrl.getLsbD 5 = true ∧ s.sale.state = .idle ∧ trainNear s panel = false) then .off else mode)
    ∧ ∀ mode, 1 ≤ p.toNat → p.toNat ≤ 6 → modeOfByte m = some mode → s.panels.recs[p.toNat - 1]? = some r →
      (r.mode = mode → exec (.panelMode d [p, m]) s = .next s)
      ∧ (r.mode ≠ mode →
        let eff : PanelMode :=
          if mode = .off then .off
          else if s.cond.ctrl.getLsbD 5 = true ∧ s.sale.state = .idle ∧ trainNear s p.toNat = false then .off
          else mode
        exec (.panelMode d [p, m]) s = .next { s with panels := { s.panels with
          recs := s.panels.recs.set (p.toNat - 1)
            (if r.present = false ∨ eff = r.eff then { r with mode := mode }
             else { r with
               mode := mode, eff := eff, modePending := true
               marks := if r.eff = .off then r.marks.map (fun _ => true) else r.marks }) } })

/-- R109, R211, R89: the arbiter of the panel bus: the first waiting panel after the round-robin place, and the message of its turn. The
cells of a ROW message are those of the store row that the window covering the panel row maps it onto, while the window is shown, and
spaces while it is hidden or where no window covers the row; each cell is its character code and its attribute code. -/
def Obligations.BusTransaction : Prop :=
  ∀ s : State, s.powered = true →
    let waits (q : Nat) : Prop := ∃ r, s.panels.recs[q - 1]? = some r ∧ r.present = true
      ∧ (if r.silent = true then r.pingDue = true
         else r.modePending = true ∨ (r.eff ≠ .off ∧ true ∈ r.marks))
    (s.panels.inFlight.isSome = true → exec .busTransaction s = .next s)
    ∧ ((∀ q, 1 ≤ q → q ≤ 6 → ¬ waits q) → exec .busTransaction s = .next s)
    ∧ (∀ p row,
      let covers (w : Window) : Prop := w.panel = p ∧ w.first ≤ row ∧ row < w.first + w.length
      ((∀ w ∈ s.board.windows, ¬ covers w) → panelContent s p row = spaces)
      ∧ ∀ w ∈ s.board.windows, covers w → (∀ x ∈ s.board.windows, covers x → x = w) →
          panelContent s p row = if w.shown then storeRow s (w.base + (row - w.first)) else spaces)
    ∧ ∀ (i : Nat) (r : PanelRec), s.panels.inFlight = none → i < 6 →
      let p := (s.panels.place + i) % 6 + 1
      (∀ j, j < i → ¬ waits ((s.panels.place + j) % 6 + 1)) → waits p → s.panels.recs[p - 1]? = some r →
      let begun (r' : PanelRec) (m : BusMsg) (chars : List Byte) : State := { s with
        panels := { recs := s.panels.recs.set (p - 1) r', place := p, inFlight := some (p, m) }
        out := s.out ++ [.bus (chars ++ beBytes 2 (crc16 chars).toNat)] }
      (r.silent = true →
        exec .busTransaction s = .next (begun { r with pingDue := false } .ping [BitVec.ofNat 8 p, 3]))
      ∧ (r.silent = false → r.modePending = true →
        exec .busTransaction s = .next (begun { r with modePending := false } .mode
          [BitVec.ofNat 8 p, 2, match r.eff with | .off => 0 | .dim => 1 | .on => 2]))
      ∧ ∀ row, r.silent = false → r.modePending = false → r.marks[row]? = some true →
          (∀ j, j < row → r.marks[j]? = some false) →
          exec .busTransaction s = .next (begun { r with marks := r.marks.set row false } (.row row)
            ([BitVec.ofNat 8 p, 1, BitVec.ofNat 8 row] ++ (panelContent s p row).flatMap fun c =>
              [BitVec.ofNat 8 c.code, match c.attr with | .normal => 0 | .inverse => 1 | .flash => 2]))

/-- R110, R111, R212: an ACK of the addressed panel ends the transaction, and returns a silent panel; any other message is ignored; at
the expiry the message is marked again, the third miss makes the panel silent, and a silent panel's ping falls due. That the ACK of a
PING leaves no ping due is the model's choice (log entry 42). -/
def Obligations.AckAndMiss : Prop :=
  ∀ (q type c1 c0 : Byte) (chars : List Byte) (p : Nat) (m : BusMsg) (r : PanelRec) (s : State), s.powered = true →
    1 ≤ p → p ≤ 6 →
    let idle (r' : PanelRec) : State :=
      { s with panels := { s.panels with recs := s.panels.recs.set (p - 1) r', inFlight := none } }
    let due (x : PanelRec) : PanelRec :=
      if x.pingTimer.isSome then { x with pingDue := true, pingTimer := some 0 } else x
    (exec (.pingTimerExpiry p) s = .next { s with panels := { s.panels with recs := s.panels.recs.modify (p - 1) due } })
    ∧ (s.panels.inFlight = none → exec (.ack chars) s = .next s ∧ exec .ackExpiry s = .next s)
    ∧ (s.panels.inFlight = some (p, m) →
      (chars.length ≠ 4 → exec (.ack chars) s = .next s)
      ∧ (type ≠ 4 ∨ q.toNat ≠ p ∨ beNat [c1, c0] ≠ (crc16 [q, type]).toNat →
          exec (.ack [q, type, c1, c0]) s = .next s)
      ∧ (s.panels.recs[p - 1]? = some r →
        (type = 4 → q.toNat = p → beNat [c1, c0] = (crc16 [q, type]).toNat →
          exec (.ack [q, type, c1, c0]) s = .next (idle
            (match m with
             | .ping => { r with
                 silent := false, miss := 0, pingTimer := none, pingDue := false, modePending := true
                 marks := r.marks.map fun _ => true }
             | _ => { r with miss := 0 })))
        ∧ (let again : PanelRec := match m with
             | .row i => { r with marks := r.marks.set i true }
             | .mode => { r with modePending := true }
             | .ping => r
           (r.silent = true → exec .ackExpiry s = .next (idle again))
           ∧ (r.silent = false → r.miss ≠ 2 → exec .ackExpiry s = .next (idle { again with miss := r.miss + 1 }))
           ∧ (r.silent = false → r.miss = 2 → ∃ t, exec .ackExpiry s = .next t
               ∧ t = { idle { again with miss := 3, silent := true, pingTimer := some 0 } with
                   cond := { s.cond with pending := s.cond.pending ||| 0x0400#16 }
                   line := { s.line with ownQ := t.line.ownQ, ownDrops := t.line.ownDrops } }))))

/-! ### Fares (chapter 7) -/

/-- R122 to R126: the per-passenger fares and the total, stage by stage, with every rounding exact; and the limits of a quote (R120,
R127): its total at most 99,999, its fares at most 65,535 and multiples of the fare step. -/
def Obligations.FareStages : Prop :=
  (∀ (f : FareTable) (g : Tariff) (d : Nat) (band : Band) (p : Product) (n : Party), 1 ≤ f.step →
    let step : ℚ := f.step
    let charge : Nat := g.rate1 * min d g.taper + g.rate2 * (max d g.taper - g.taper)
    let raw : Nat := g.boarding + ⌈(charge : ℚ) / 1000⌉₊
    let banded : Nat := match band with
      | .peak => ⌈(raw : ℚ) / step⌉₊ * f.step
      | .offPeak => ⌈(raw : ℚ) * g.offPeak / (100 * step)⌉₊ * f.step
    let adult : Nat := if g.cap = 0 then banded else min banded g.cap
    let child : Nat := min (max (⌊(adult : ℚ) / (2 * step)⌋₊ * f.step) f.childMin) adult
    let conc : Option Nat :=
      if band = .peak ∧ g.barred = true then none else some (⌈(adult : ℚ) * g.conc / (100 * step)⌉₊ * f.step)
    let fare (x : Nat) : Nat := match p with
      | .single => x
      | .ret => ⌈(x : ℚ) * g.ret / (100 * step)⌉₊ * f.step
    faresFor f g d band p = ⟨fare adult, fare child, conc.map fare⟩
      ∧ totalFare n (faresFor f g d band p) =
          n.na * fare adult + n.nc * fare child + n.nq * ((conc.map fare).getD 0))
  ∧ ∀ (s : State) (r : QuoteReq) (q : Quote),
    (∀ f, s.fares = some f → 1 ≤ f.step ∧ f.step ∣ f.childMin ∧ ∀ g ∈ f.groups, f.step ∣ g.cap) →
    quoteFor s r = .quote q →
      q.total ≤ 99999
      ∧ q.total = r.party.na * q.adult.getD 0 + r.party.nc * q.child.getD 0 + r.party.nq * q.conc.getD 0
      ∧ ∀ x, q.adult = some x ∨ q.child = some x ∨ q.conc = some x → x ≤ 65535 ∧ q.step ∣ x

/-! ### The sale (chapter 8) -/

/-- R132: in IDLE a WAKE or a choice begins a sale while SALES_OPEN is present (the panels are then evaluated, since a sale is a wake
reason: R108, R131), and a choice is then taken in SELECTING; both are answered CLOSED(SALES_CLOSED) while it is absent. A CONFIRM is
REFUSED(NOT_QUOTED), a CANCEL ignored, and a STOP REQUEST leaves the context as it is. -/
def Obligations.WakeBeginsSale : Prop :=
  ∀ (c : Instr) (total id : Nat) (s : State), s.powered = true → s.sale.state = .idle →
    let woken : State := { s with sale := { s.sale with state := .selecting, inactivity := some 0 } }
    let begun := evalPanels woken
    begun = { woken with panels := begun.panels } ∧ PanelsFollow woken begun (fun _ => true) (fun _ _ => False)
    ∧ (s.cond.salesOpen = true →
      exec .wake s = .next begun ∧ (IsChoice c → exec c s = exec c begun))
    ∧ (s.cond.salesOpen = false → c = .wake ∨ IsChoice c →
        exec c s = .next { s with out := s.out ++ [.console (.closed .salesClosed)] })
    ∧ (total ≤ 99999 →
        exec (.confirm total) s = .next { s with out := s.out ++ [.console (.refused .notQuoted)] })
    ∧ exec .cancel s = .next s
    ∧ (1 ≤ id → id ≤ 65535 → ∃ t, exec (.stopRequest id) s = .next t ∧ t.sale = s.sale)

/-- R133 to R135, Table 8-5: the choices in SELECTING and QUOTED, each ending in a quote request (R136), and BUSY later. A WAKE or a
choice restarts the inactivity timer while the sale is not paid (R140). R79, R80, R64: what the sellability query and the offer query
answer: the sellable entries that call at the stop and are expected at or after now, in display order, the first four of them, each with
its times, platform, state and the name of its last stop. The one space in a name such as "Stop 07" (DEDUCED, log entry 31) and the mark
of request stop that the context keeps of the service chosen (DEDUCED, log entry 17) are the model's readings. -/
def Obligations.ChoicesTaken : Prop :=
  ∀ (stop id na nc nq : Nat) (p : Product) (c : Instr) (s : State), s.powered = true →
    let u : State := { s with sale := { s.sale with inactivity := some 0 } }
    (s.sale.state = .selecting ∨ s.sale.state = .quoted →
      exec .wake s = .next u
      ∧ (stop ≤ 255 →
          let chosen := { u with sale := { u.sale with dest := some stop, service := none, request := false } }
          let found := captureFaults (offerFaults s (offered s stop)) chosen
          exec (.destination stop) s = .next (requestQuote { found with
            sale := { found.sale with offer := (offered s stop).map fun e => (e.2.svc.id, e.2.day) }
            out := found.out ++ [.console (.offer ((offered s stop).map (offerLine s)))] }))
      ∧ exec (.service 65535) s =
          .next (requestQuote { u with sale := { u.sale with service := some .any, request := false } })
      ∧ (1 ≤ id → id < 65535 →
          (∀ day, (s.sale.offer.find? fun o => decide (o.1 = id)) = some (id, day) → isSellable s id day = true →
            exec (.service id) s = .next (requestQuote { u with sale := { u.sale with
              service := some (.train id day)
              request := ((findEntry s id day).map fun e => e.2.svc.request).getD false } }))
          ∧ (((s.sale.offer.find? fun o => decide (o.1 = id)) = none
              ∨ (∃ day, (s.sale.offer.find? fun o => decide (o.1 = id)) = some (id, day) ∧ isSellable s id day = false)) →
            exec (.service id) s = .next { u with out := s.out ++ [.console (.refused .noService)] }))
      ∧ exec (.product p) s = .next (requestQuote { u with sale := { u.sale with product := some p } })
      ∧ (na ≤ 9 ∧ nc ≤ 9 ∧ nq ≤ 9 ∧ 1 ≤ na + nc + nq ∧ na + nc + nq ≤ 9 →
          exec (.party na nc nq) s = .next (requestQuote { u with sale := { u.sale with party := some ⟨na, nc, nq⟩ } }))
      ∧ (na ≤ 15 → nc ≤ 15 → nq ≤ 15 → ¬ (na ≤ 9 ∧ nc ≤ 9 ∧ nq ≤ 9 ∧ 1 ≤ na + nc + nq ∧ na + nc + nq ≤ 9) →
          exec (.party na nc nq) s = .next { u with out := s.out ++ [.console (.refused .partyInvalid)] }))
    ∧ (s.sale.state = .paying →
        exec .wake s = .next u ∧ (IsChoice c → exec c s = .next { u with out := s.out ++ [.console (.refused .busy)] }))
    ∧ (s.sale.state = .issuing ∨ s.sale.state = .settling →
        exec .wake s = .next s ∧ (IsChoice c → exec c s = .next { s with out := s.out ++ [.console (.refused .busy)] }))
    ∧ (s.clock.valid = false → offered s stop = [])
    ∧ (TimetableSafe s →
      (∀ n day, isSellable s n day = true ↔
        ∃ p, HeldIn s p ∧ p.2.svc.id = n ∧ p.2.day = day ∧ p.2.svc.sellable = true ∧ StillToCome p.2)
      ∧ (s.clock.valid = true → ∃ kept : List (Bool × RunEntry), offered s stop = kept.take 4 ∧ kept.Nodup
          ∧ kept.Pairwise (fun a b => ¬ ShownBefore b a)
          ∧ ∀ p, p ∈ kept ↔ HeldIn s p ∧ p.2.svc.sellable = true ∧ StillToCome p.2 ∧ (∃ call ∈ p.2.svc.calls, call.1 = stop)
              ∧ s.clock.minute ≤ expectedOf p.1 p.2))
    ∧ ∀ held (e : RunEntry) last minutes, e.svc.calls.getLast? = some (last, minutes) → last ≤ 63 →
        let line (name : List Nat) : OfferLine := ⟨e.svc.id, e.svc.dep, expectedOf held e, e.platform, e.state, name⟩
        (∀ f x, s.fares = some f → f.stops[last]? = some x →
          offerLine s (held, e) = line x.name ∧ offerFaults s [(held, e)] = [])
        ∧ ((∀ f, s.fares = some f → f.stops.length ≤ last) →
          offerLine s (held, e) = line (text "Stop " ++ [48 + last / 10, 48 + last % 10])
          ∧ offerFaults s [(held, e)] = [⟨.beyondLength, .offer, last, s.clock.day, s.clock.minute⟩])

/-- R136: a quote request is made with destination, product and party set: a quote is in force and QUOTE is sent, or a refusal
empties it, is sent, and hands over its fault. R116, R119 to R121, R127: the fare calculator takes a request through its checks in
order: table and clock, party, destination, range, concession bar, total; what passes is quoted with the fares of the destination's
group, distance and band. -/
def Obligations.QuoteOutcome : Prop :=
  ∀ (d : Nat) (p : Product) (n : Party) (s : State),
    let r : QuoteReq := ⟨d, s.sale.service.getD .any, p, n⟩
    (s.sale.dest = none ∨ s.sale.product = none ∨ s.sale.party = none → requestQuote s = s)
    ∧ (s.sale.dest = some d → s.sale.product = some p → s.sale.party = some n →
      (∀ q, quoteFor s r = .quote q →
        requestQuote s = { s with
          sale := { s.sale with quote := some q, state := .quoted }
          out := s.out ++ [.console (.quote q.adult q.child q.conc q.total q.band)] })
      ∧ (∀ why, quoteFor s r = .refused why none →
        requestQuote s = { s with
          sale := { s.sale with quote := none, state := .selecting }
          out := s.out ++ [.console (.refused (.quote why))] })
      ∧ (∀ why f, quoteFor s r = .refused why (some f) →
        requestQuote s = { captureFault f s with
          sale := { s.sale with quote := none, state := .selecting }
          out := s.out ++ [.console (.refused (.quote why))] }))
    ∧ (s.fares = none ∨ s.clock.valid = false → quoteFor s r = .refused .noFare none)
    ∧ (∀ f, s.fares = some f → s.clock.valid = true →
        (¬ (n.na ≤ 9 ∧ n.nc ≤ 9 ∧ n.nq ≤ 9 ∧ 1 ≤ n.na + n.nc + n.nq ∧ n.na + n.nc + n.nq ≤ 9) →
          quoteFor s r = .refused .partyInvalid none)
        ∧ ((n.na ≤ 9 ∧ n.nc ≤ 9 ∧ n.nq ≤ 9 ∧ 1 ≤ n.na + n.nc + n.nq ∧ n.na + n.nc + n.nq ≤ 9) →
          (f.stops.length ≤ d →
            quoteFor s r = .refused .fareFault (some ⟨.beyondLength, .fare, d, s.clock.day, s.clock.minute⟩))
          ∧ (∀ stop, f.stops[d]? = some stop → stop.group = none ∨ d = f.home →
            quoteFor s r = .refused .fareFault (some ⟨.absent, .fare, d, s.clock.day, s.clock.minute⟩))
          ∧ ∀ stop g group, f.stops[d]? = some stop → stop.group = some g → f.groups[g]? = some group → d ≠ f.home →
            let reference := match s.sale.service with
              | some (.train id day) =>
                if day = s.clock.day then
                  ((s.tt.entries.find? fun e => decide (e.svc.id = id)).map fun e => e.svc.dep).getD s.clock.minute
                else s.clock.minute
              | some .any | none => s.clock.minute
            let bands := if s.clock.weekday = 5 ∨ s.clock.weekday = 6 ∨ s.cond.ctrl.getLsbD 4 = true then f.restBands
              else f.workBands
            let peak := ∃ b ∈ bands, b.1 ≤ reference ∧ reference < b.2
            ∀ band, (band = .peak ↔ peak) → s.clock.weekday ≤ 6 →
              let x := faresFor f group stop.dist band p
              let outside := (1 ≤ n.na ∧ 65535 < x.adult) ∨ (1 ≤ n.nc ∧ 65535 < x.child)
                ∨ (1 ≤ n.nq ∧ ∃ c, x.conc = some c ∧ 65535 < c)
              (outside → quoteFor s r = .refused .fareFault (some ⟨.outOfRange, .fare, d, s.clock.day, s.clock.minute⟩))
              ∧ (¬ outside → 1 ≤ n.nq → x.conc = none → quoteFor s r = .refused .noConcession none)
              ∧ (¬ outside → ¬ (1 ≤ n.nq ∧ x.conc = none) →
                let total := n.na * x.adult + n.nc * x.child + n.nq * x.conc.getD 0
                let shown (y : Nat) : Option Nat := if y ≤ 65535 then some y else none
                (99999 < total → quoteFor s r = .refused .tooDear none)
                ∧ (total ≤ 99999 → quoteFor s r = .quote
                    { adult := shown x.adult, child := shown x.child, conc := x.conc.bind shown, total := total, band := band
                      step := f.step, version := f.version, destName := stop.name, destCode := stop.code
                      homeName := ((f.stops[f.home]?).map Stop.name).getD []
                      homeCode := ((f.stops[f.home]?).map Stop.code).getD [] }))))

/-- R137, R138, R142, R145, R178, R179, Table 8-5: a CONFIRM. The reservation may bring the fill to JOURNAL_L1, whose notice is raised,
and the sale goes on: it enters PAYING, the modules are armed and PAY PROGRESS is sent; a quote of total 0 completes at once with medium
COIN, its record, serial and ticket as for any other. A reservation that brings the fill to JOURNAL_L2 closes the sale, which releases
it. That ACCEPT(on) is sent before ARM is the model's choice (log entry 45), and that the ticket's train is looked up when PRINT is sent
its reading (DEDUCED, log entry 35). -/
def Obligations.ConfirmTaken : Prop :=
  ∀ (total : Nat) (q : Quote) (s : State), s.powered = true → total ≤ 99999 →
    let u : State := { s with sale := { s.sale with inactivity := some 0 } }
    (s.sale.state = .selecting →
      exec (.confirm total) s = .next { u with out := s.out ++ [.console (.refused .notQuoted)] })
    ∧ (s.sale.state = .paying → exec (.confirm total) s = .next { u with out := s.out ++ [.console (.refused .busy)] })
    ∧ (s.sale.state = .issuing ∨ s.sale.state = .settling →
      exec (.confirm total) s = .next { s with out := s.out ++ [.console (.refused .busy)] })
    ∧ (s.sale.state = .quoted → s.sale.quote = some q →
      (total ≠ q.total → exec (.confirm total) s = .next { u with
        out := s.out ++ [.console (.refused .quoteChanged),
          .console (.quote q.adult q.child q.conc q.total q.band)] })
      ∧ (total = q.total →
          ¬ (fill s < 2048 ∧ s.jrn.reserved = false ∧ openRec s = none ∧ s.ret.nextSeq < 4294967295) →
          exec (.confirm total) s = .next { u with out := s.out ++ [.console (.refused .journalFull)] })
      ∧ (total = q.total → fill s < 2048 → s.jrn.reserved = false → openRec s = none → s.ret.nextSeq < 4294967295 →
          s.jrn.l2 = false →
          let l1 := decide (s.settings.journalL1 ≤ fill s + 1)
          let raised := if l1 && !s.jrn.l1 then s.cond.pending ||| 0x0004#16 else s.cond.pending
          (fill s + 1 < s.settings.journalL2 → s.pay.accept = false → s.pay.armed = false → s.pay.escrow = [] →
            (total ≠ 0 → ∃ t, exec (.confirm total) s = .next t ∧ t = { s with
              sale := { s.sale with state := .paying, paid := 0, reserved := true, inactivity := some 0 }
              jrn := { s.jrn with reserved := true, l1 := l1 }
              pay := { s.pay with accept := s.pay.coinAvail, armed := s.pay.cardAvail }
              out := s.out ++ (if s.pay.coinAvail then [.coin (.accept true)] else [])
                ++ (if s.pay.cardAvail then [.card (.arm total)] else []) ++ [.console (.payProgress 0 total)]
              cond := { s.cond with pending := raised }
              line := { s.line with ownQ := t.line.ownQ, ownDrops := t.line.ownDrops } })
            ∧ (∀ dest p n, total = 0 → 1 ≤ s.ret.current.count → s.sale.dest = some dest → s.sale.product = some p →
                s.sale.party = some n → ∃ t ticket, exec (.confirm total) s = .next t
                  ∧ IssueBegins s q dest p n 0 .coin none 0 ticket t
                  ∧ t.out = s.out ++ [.console (.payProgress 0 0), .print ticket]
                  ∧ t.pay = { s.pay with plan := some ⟨0, 0, 0, 0⟩ } ∧ t.jrn.l1 = l1 ∧ t.jrn.l2 = false))
          ∧ (s.settings.journalL2 ≤ fill s + 1 → s.sale.state = .quoted → s.cond.salesOpen = true →
            ∃ t, exec (.confirm total) s = .next t
              ∧ t.sale = Sale.atRest ∧ t.out = s.out ++ [.console (.closed .salesClosed)]
              ∧ t.jrn = { s.jrn with reserved := false, l1 := l1Now t, l2 := l2Now t }
              ∧ t.cond.pending = raised ||| 0x0008#16 ∧ t.cond.salesOpen = salesOpenNow t
              ∧ t.ret = s.ret ∧ t.pay = s.pay ∧ t.clock = s.clock ∧ t.settings = s.settings)))

/-- R139, R141: a CANCEL in SELECTING, QUOTED or PAYING abandons the sale, in the steps of R139, and is ignored elsewhere; R140: so
does the expiry of the inactivity timer, with reason TIMEOUT. That RETURN is sent first, then ACCEPT(off), then DISARM, for which R160
gives no order, is the model's choice (log entry 45). -/
def Obligations.SaleAbandoned : Prop :=
  ∀ s : State, s.powered = true →
    let opened := s.sale.state = .selecting ∨ s.sale.state = .quoted ∨ s.sale.state = .paying
    (opened → ∃ t, exec .cancel s = .next t ∧ Abandoned s .cancelled t)
    ∧ (¬ opened → exec .cancel s = .next s)
    ∧ (opened → s.sale.inactivity.isSome = true → ∃ t, exec .inactivityExpiry s = .next t ∧ Abandoned s .timeout t)
    ∧ (¬ opened ∨ s.sale.inactivity = none → exec .inactivityExpiry s = .next s)

/-- R75, R76, R152, R199: a console STOP REQUEST by its outcome: NOT_REQUESTABLE, MERGED, LIST_FULL, LODGED. The entry it is for is the
first in display order (R64) of those of the id that have request stop yes and are PLANNED, RUNNING, STALE or ARRIVING. A LODGED outcome
hands over a STOP report, of the state with the new entry in the list, while REPORTS_ENABLE is set, and tells the composer: a train
window that has the service as a candidate, or within its filters, is marked. -/
def Obligations.StopRequest : Prop :=
  ∀ (id : Nat) (s : State), s.powered = true → 1 ≤ id → id ≤ 65535 →
    let u : State := if s.sale.state = .selecting ∨ s.sale.state = .quoted ∨ s.sale.state = .paying then
      { s with sale := { s.sale with inactivity := some 0 } } else s
    let suits (p : Bool × RunEntry) : Prop := HeldIn s p ∧ p.2.svc.id = id ∧ p.2.svc.request = true ∧ StillToCome p.2
    (firstRequestable s id = none ↔ ∀ p, ¬ suits p)
    ∧ (∀ e, firstRequestable s id = some e → ∃ held, suits (held, e) ∧ ∀ p, suits p → ¬ ShownBefore p (held, e))
    ∧ (firstRequestable s id = none →
      exec (.stopRequest id) s = .next { u with out := s.out ++ [.console (.refused .notRequestable)] })
    ∧ ∀ held e, firstRequestable s id = some e → findEntry s id e.day = some (held, e) →
      let same (q : StopReq) : Bool := decide (q.id = id ∧ q.day = e.day)
      let stands : ReqState := if e.stopOrdered then .ordered else .lodged
      (∀ q, s.tt.stopReqs.find? same = some q →
        exec (.stopRequest id) s = .next { u with out := s.out ++ [.console (.stopTaken id q.state)] })
      ∧ (s.tt.stopReqs.find? same = none → 8 ≤ s.tt.stopReqs.length →
        exec (.stopRequest id) s = .next { u with out := s.out ++ [.console (.refused .listFull)] })
      ∧ (s.tt.stopReqs.find? same = none → s.tt.stopReqs.length < 8 →
        let joined : Timetable := { s.tt with stopReqs := s.tt.stopReqs ++ [⟨id, e.day, stands, s.clock.minute, .button⟩] }
        let v : State := { u with tt := joined }
        ∃ t, exec (.stopRequest id) s = .next t
          ∧ t.cond.reportTimer = (if hasLodged t then some 0 else none)
          ∧ t.line = (if s.cond.ctrl.getLsbD 10 then (handOwn .haltReport (reportBody .stop v) v).line else s.line)
          ∧ t.board.windows = (s.board.windows.map fun w =>
              if (w.live = some .departures ∨ w.live = some .nextTrain)
                  ∧ ((id, e.day) ∈ w.cands
                    ∨ (w.platforms.getLsbD (e.platform - 1) = true
                      ∧ w.dirs.getLsbD (match e.svc.dir with | .up => 0 | .down => 1) = true)) then
                { w with marked := true }
              else w)
          ∧ t = { u with
              tt := joined
              out := s.out ++ [.console (.stopTaken id stands)]
              cond := { s.cond with reportTimer := t.cond.reportTimer }
              line := t.line
              board := { s.board with windows := t.board.windows } })

/-! ### Coins, cards, printer (chapters 8 and 9) -/

/-- R145, R146, R157, R159, R180: a coin at the gate is refused when a test of R157 fails, and taken otherwise; the payment is complete
when paid reaches the total, with its serial, open record and ticket. That PAY PROGRESS is sent before the ACCEPT(off) of a full escrow
is the model's choice (log entry 45), and that the ticket's train is looked up when PRINT is sent its reading (DEDUCED, log entry 35).
-/
def Obligations.CoinOffered : Prop :=
  ∀ (v : Nat) (s : State), s.powered = true → v ≤ 65535 →
    let total := saleTotal s
    let taken := (v = 10 ∨ v = 20 ∨ v = 50 ∨ v = 100 ∨ v = 200) ∧ s.sale.state = .paying ∧ s.pay.coinAvail = true
      ∧ s.pay.escrow.length < 16 ∧ s.sale.paid < total
      ∧ (s.sale.paid + v ≤ total ∨ (changePlan s (s.sale.paid + v - total)).isSome = true)
    (¬ taken → s.sale.state ≠ .paying →
      exec (.offer v) s = .next { s with out := s.out ++ [.coin .refuse] })
    ∧ (¬ taken → s.sale.state = .paying →
      exec (.offer v) s = .next { s with
        sale := { s.sale with inactivity := some 0 }
        out := s.out ++ [.coin .refuse, .console (.payProgress s.sale.paid (total - s.sale.paid))] })
    ∧ (taken → s.sale.paid = s.pay.escrow.sum → s.pay.accept = true → s.sale.paid + v < total →
      exec (.offer v) s = .next { s with
        sale := { s.sale with paid := s.sale.paid + v, inactivity := some 0 }
        pay := { s.pay with escrow := s.pay.escrow ++ [v], accept := decide (s.pay.escrow.length + 1 < 16) }
        out := s.out ++ [.coin .take, .console (.payProgress (s.sale.paid + v) (total - (s.sale.paid + v)))]
          ++ (if s.pay.escrow.length + 1 < 16 then [] else [.coin (.accept false)]) })
    ∧ (∀ q dest p n, taken → s.sale.paid = s.pay.escrow.sum → total ≤ s.sale.paid + v → s.sale.quote = some q →
        s.sale.dest = some dest → s.sale.product = some p → s.sale.party = some n → 1 ≤ s.ret.current.count →
        let planned := s.sale.paid + v - total
        ∃ t ticket, exec (.offer v) s = .next t
          ∧ IssueBegins s q dest p n (s.sale.paid + v) .coin none planned ticket t
          ∧ t.pay = { s.pay with
              escrow := s.pay.escrow ++ [v], accept := false, armed := false
              plan := if planned = 0 then some ⟨0, 0, 0, 0⟩ else changePlan s planned }
          ∧ t.out = s.out ++ [.coin .take, .print ticket] ++ (if s.pay.accept then [.coin (.accept false)] else [])
              ++ (if s.pay.armed then [.card .disarm] else []))

/-- R158: the change plan: it fails while a payout is outstanding and above 190 cents; otherwise it is made greedily, and a plan that
succeeds pays exactly the amount from coins that the tubes hold. -/
def Obligations.ChangePlanExact : Prop :=
  ∀ (c : Nat) (s : State),
    let n100 := min (c / 100) s.ret.tubes.c100
    let n50 := min ((c - 100 * n100) / 50) s.ret.tubes.c50
    let n20 := min ((c - 100 * n100 - 50 * n50) / 20) s.ret.tubes.c20
    let n10 := min ((c - 100 * n100 - 50 * n50 - 20 * n20) / 10) s.ret.tubes.c10
    (s.pay.outstanding ≠ none ∨ 190 < c → changePlan s c = none)
    ∧ (s.pay.outstanding = none → c ≤ 190 →
        (changePlan s c = some ⟨n10, n20, n50, n100⟩ ↔ c = 10 * n10 + 20 * n20 + 50 * n50 + 100 * n100)
        ∧ (changePlan s c = none ↔ c ≠ 10 * n10 + 20 * n20 + 50 * n50 + 100 * n100))
    ∧ ∀ plan, changePlan s c = some plan →
        10 * plan.c10 + 20 * plan.c20 + 50 * plan.c50 + 100 * plan.c100 = c
        ∧ plan.c10 ≤ s.ret.tubes.c10 ∧ plan.c20 ≤ s.ret.tubes.c20 ∧ plan.c50 ≤ s.ret.tubes.c50
        ∧ plan.c100 ≤ s.ret.tubes.c100

/-- R145, R166, R180, Table 9-4: a TOKEN is declined with the reason of the first test that fails; an approved one completes the
payment: the next serial is taken, the open record written, PRINT sent, the modules disarmed. That the amount paid stands at the total
after a card, and that the ticket's train is looked up when PRINT is sent, are the model's readings (DEDUCED, log entries 36 and 35);
that PRINT is sent before ACCEPT(off), and ACCEPT(off) before DISARM, is its choice (log entry 45). -/
def Obligations.CardJudged : Prop :=
  ∀ (token : Nat) (s : State), s.powered = true → token < 2 ^ 64 →
    let total := saleTotal s
    let tally := match s.pay.tally.find? fun e => decide (e.token = token) with
      | some e => (e.total, e.count)
      | none => (0, 0)
    let why : Option Decline :=
      if s.pay.escrow ≠ [] then some .coinsIn
      else if s.pay.cardAvail = false then some .unavailable
      else if token ∈ s.pay.deny then some .denied
      else if s.settings.cardFloor < total then some .overFloor
      else if s.settings.cardDaily < tally.1 + total then some .overDailyLimit
      else if s.settings.cardCount < tally.2 + 1 then some .overDailyCount
      else none
    (s.sale.state ≠ .paying →
      exec (.token token) s = .next { s with out := s.out ++ [.card (.result (some .noSale))] })
    ∧ (∀ x, s.sale.state = .paying → why = some x →
      exec (.token token) s = .next { s with
        sale := { s.sale with inactivity := some 0 }
        out := s.out ++ [.card (.result (some x)), .console (.refused (.card x))] })
    ∧ (∀ q d p n, s.sale.state = .paying → why = none → s.sale.quote = some q → s.sale.dest = some d →
        s.sale.product = some p → s.sale.party = some n → 1 ≤ s.ret.current.count →
      ∃ t ticket, exec (.token token) s = .next t
        ∧ IssueBegins s q d p n q.total .card (some token) 0 ticket t
        ∧ t.pay = { s.pay with accept := false, armed := false }
        ∧ t.out = s.out ++ [.card (.result none), .print ticket]
            ++ (if s.pay.accept then [.coin (.accept false)] else [])
            ++ (if s.pay.armed then [.card .disarm] else []))

/-- R147, R151, R161, R170, R181, R189: a DONE in ISSUING closes a card sale, and a coin sale with planned change 0 (a free ticket among
them), as SALE and completes it, with the stop request of its train; a pending day close is settled with it. A coin sale with planned
change is committed, pays out its plan and enters SETTLING with its record printed. `CoinsDropped` spells where each coin of the escrow
goes, and `TallyTaken` what the spend tally takes. In any other state a DONE is ignored. That the plan of a sale without coins is
cleared is the model's choice (log entry 39); the stop outcome of a train no longer held is the model's reading (DEDUCED, log entry 17).
-/
def Obligations.PrintDone : Prop :=
  ∀ (r : SaleRec) (s : State), s.powered = true →
    let newest := (s.ret.nextSeq - 1 - 1) % 2048
    let closed : SaleRec := { r with
      printed := true, kind := .sale, recovered := false, changeGiven := 0, changeOwed := 0, reason := .none }
    let issued : OutMsg := .console (.issued (s.sale.serial.getD 0) 0 (saleStop s).1 (saleStop s).2.1)
    let dropped := dropCoins s.ret.tubes s.pay.escrow
    let tally := tallyTake r.token r.amount s.clock.minute s.pay.tally
    CoinsDropped s.ret.tubes s.pay.escrow dropped.1 dropped.2
    ∧ TallyTaken r.token r.amount s.clock.minute s.pay.tally tally
    ∧ (s.sale.state ≠ .issuing → exec .done s = .next s)
    ∧ (s.sale.state = .issuing → openRec s = some r →
      (s.sale.medium = some .card → r.medium = .card →
        ∃ t, exec .done s = .next t ∧ t.sale = Sale.atRest
          ∧ t.ret = storeClosed s.ret s.jrn.reserved (some closed)
          ∧ t.pay = { s.pay with plan := none, tally := tally }
          ∧ t.tt = { s.tt with stopReqs := (saleStop s).2.2 }
          ∧ t.out = s.out ++ [issued])
      ∧ (s.sale.medium = some .coin → r.medium = .coin → s.sale.planned = 0 →
        ∃ t, exec .done s = .next t ∧ t.sale = Sale.atRest
          ∧ t.ret = storeClosed { s.ret with tubes := dropped.2 } s.jrn.reserved (some closed)
          ∧ t.pay = { s.pay with
              escrow := [], plan := none
              low10 := t.pay.low10, low20 := t.pay.low20, low50 := t.pay.low50, low100 := t.pay.low100 }
          ∧ (s.pay.escrow ≠ [] →
              t.pay.low10 = decide (dropped.2.c10 ≤ s.settings.tubeLow10)
              ∧ t.pay.low20 = decide (dropped.2.c20 ≤ s.settings.tubeLow20)
              ∧ t.pay.low50 = decide (dropped.2.c50 ≤ s.settings.tubeLow50)
              ∧ t.pay.low100 = decide (dropped.2.c100 ≤ s.settings.tubeLow100))
          ∧ t.tt = { s.tt with stopReqs := (saleStop s).2.2 }
          ∧ t.out = s.out ++ (if s.pay.escrow = [] then [] else [.coin (.commit dropped.1)]) ++ [issued])
      ∧ (∀ plan, s.sale.medium = some .coin → 0 < s.sale.planned → s.pay.escrow ≠ [] → s.pay.plan = some plan →
        ∃ t, exec .done s = .next t
          ∧ t.sale = { s.sale with state := .settling, print := none, payout := some 0 }
          ∧ t.ret = { s.ret with
              ring := Memory.write none newest (some (.ticket { r with printed := true })) s.ret.ring
              tubes := dropped.2 }
          ∧ t.pay.escrow = [] ∧ t.pay.plan = none ∧ t.pay.outstanding = some plan
          ∧ t.pay.low10 = decide (t.ret.tubes.c10 ≤ s.settings.tubeLow10)
          ∧ t.out = s.out ++ [.coin (.commit dropped.1), .coin (.payout plan)]))

/-- R148, R149, R160, R181, R189, R195: a FAULT in ISSUING, or the print timer's expiry, voids the open record, returns the coins and closes
the sale, with PRINTER_FAULT present, its notice raised where it was absent, and SALES_OPEN absent; a FAULT in another state makes
PRINTER_FAULT present alone; a READY makes it absent. That a void sends DISARM only to an armed
module is the model's choice (log entry 46), and so is that RETURN, ACCEPT(off) and DISARM come in this order (log entry 45); that
figures stop at their greatest value is its reading (DEDUCED, log entry 19). -/
def Obligations.PrintFailed : Prop :=
  ∀ (r : SaleRec) (s : State), s.powered = true →
    let failed (why : VoidReason) (t : State) : Prop :=
      t.sale = Sale.atRest ∧ t.printerFault = true ∧ t.cond.salesOpen = false
      ∧ (s.printerFault = false → t.cond.pending.getLsbD 9 = true)
      ∧ t.ret = storeClosed s.ret s.jrn.reserved
          (some { r with kind := .void, recovered := false, changeGiven := 0, changeOwed := 0, reason := why })
      ∧ t.pay = { s.pay with escrow := [], plan := none, accept := false, armed := false }
      ∧ t.out = s.out ++ (if s.pay.escrow = [] then [] else [.coin .ret])
          ++ (if s.pay.accept then [.coin (.accept false)] else []) ++ (if s.pay.armed then [.card .disarm] else [])
          ++ [.console (.closed .printFault)]
    (s.sale.state = .issuing → openRec s = some r →
      (∃ t, exec .fault s = .next t ∧ failed .printFault t)
      ∧ (s.sale.print.isSome = true → ∃ t, exec .printTimerExpiry s = .next t ∧ failed .printTimeout t))
    ∧ (s.sale.state ≠ .issuing → exec .printTimerExpiry s = .next s)
    ∧ (s.sale.state ≠ .issuing → s.printerFault = true → exec .fault s = .next s)
    ∧ (s.sale.state ≠ .issuing → s.printerFault = false →
        ∃ t, exec .fault s = .next t ∧ t.printerFault = true ∧ t.cond.salesOpen = false
          ∧ t.cond.pending.getLsbD 9 = true ∧ t.ret = s.ret ∧ t.clock = s.clock ∧ t.settings = s.settings)
    ∧ (s.printerFault = true → ∃ t, exec .printerReady s = .next t ∧ t.printerFault = false
          ∧ t.cond.salesOpen = salesOpenNow t ∧ t.ret = s.ret ∧ t.clock = s.clock ∧ t.settings = s.settings)
    ∧ (s.printerFault = false → exec .printerReady s = .next s)

/-- R150, R151, R162, R181, R189: a PAYOUT DONE lowers the tubes by the held counts and settles a sale in SETTLING, with the stop request of
its train; the payout timer's expiry settles it with the whole change owed. Owed change is told to the console and raises
CHANGE_SHORT; that a TUBE_LOW of the same event is raised before it is the model's choice (log entry 12). The stop outcome of a train no
longer held is the model's reading (DEDUCED, log entry 17). -/
def Obligations.PayoutSettles : Prop :=
  ∀ (a b c d : Nat) (o : Tubes) (r : SaleRec) (s : State), s.powered = true →
    let settled (given owed : Nat) (t : State) : Prop :=
      t.sale = Sale.atRest
      ∧ t.ret = storeClosed { s.ret with tubes := t.ret.tubes } s.jrn.reserved
          (some { r with kind := .sale, recovered := false, changeGiven := given, changeOwed := owed, reason := .none })
      ∧ t.out = s.out ++ (if 0 < owed then [.console (.changeShort owed)] else [])
          ++ [.console (.issued (s.sale.serial.getD 0) given (saleStop s).1 (saleStop s).2.1)]
      ∧ t.tt = { s.tt with stopReqs := (saleStop s).2.2 }
      ∧ (0 < owed → t.cond.pending.getLsbD 8 = true)
    let held : Tubes := ⟨min a o.c10, min b o.c20, min c o.c50, min d o.c100⟩
    let value := 10 * held.c10 + 20 * held.c20 + 50 * held.c50 + 100 * held.c100
    let tubes : Tubes := ⟨s.ret.tubes.c10 - held.c10, s.ret.tubes.c20 - held.c20, s.ret.tubes.c50 - held.c50,
      s.ret.tubes.c100 - held.c100⟩
    (s.pay.outstanding = none → exec (.payoutDone a b c d) s = .next s)
    ∧ (a ≤ 255 → b ≤ 255 → c ≤ 255 → d ≤ 255 → s.pay.outstanding = some o →
      (s.sale.state ≠ .settling → ∃ t, exec (.payoutDone a b c d) s = .next t
        ∧ t.ret = { s.ret with tubes := tubes } ∧ t.pay.outstanding = none ∧ t.sale = s.sale ∧ t.out = s.out)
      ∧ (s.sale.state = .settling → openRec s = some r →
        ∃ t, exec (.payoutDone a b c d) s = .next t ∧ t.ret.tubes = tubes ∧ t.pay.outstanding = none
          ∧ settled value (s.sale.planned - value) t))
    ∧ (s.sale.state = .settling → s.sale.payout.isSome = true → openRec s = some r →
        ∃ t, exec .payoutTimerExpiry s = .next t ∧ t.ret.tubes = s.ret.tubes ∧ t.pay.outstanding = s.pay.outstanding
          ∧ settled 0 s.sale.planned t)
    ∧ (s.sale.state ≠ .settling → exec .payoutTimerExpiry s = .next s)

/-- R142, R155, R156, R162, R165, R195: the readiness messages of the coin and the card module: the availabilities and SALES_OPEN as
derived, and in PAYING the acceptance and the arming that follow. Where the last availability ends under a sale that is not paid, the
sale is abandoned, before acceptance and arming are evaluated (the model's choice, log entry 12), with RETURN, ACCEPT(off) and DISARM
sent in this order (its choice too, log entry 45). A coin NOT_READY also ends an outstanding payout; that it does so when it repeats the
readiness held is the model's reading (log entry 18). -/
def Obligations.ModuleReadiness : Prop :=
  ∀ s : State, s.powered = true → (s.sale.state ≠ .paying → s.pay.accept = false ∧ s.pay.armed = false) →
    let taken (c : Instr) (coin card : Bool) (payout : Option Tubes) : Prop :=
      let told : State := { s with pay := { s.pay with
        coinReady := coin, cardReady := card, outstanding := payout
        coinAvail := s.cond.ctrl.getLsbD 2 && coin
        cardAvail := s.cond.ctrl.getLsbD 3 && !s.pay.denyOld && card } }
      let paying := s.sale.state = .paying
      let accept : Bool := decide (paying ∧ s.pay.escrow.length < 16 ∧ s.pay.escrow.sum < saleTotal s) && told.pay.coinAvail
      let arm : Bool := decide (paying ∧ saleTotal s ≠ 0) && told.pay.cardAvail
      let falls := s.cond.salesOpen = true ∧ salesOpenNow told = false
        ∧ (s.sale.state = .selecting ∨ s.sale.state = .quoted ∨ paying)
      ∃ t, exec c s = .next t
        ∧ t.cond.salesOpen = salesOpenNow t
        ∧ (falls → Abandoned told .salesClosed t)
        ∧ (¬ falls → t = { told with
            pay := { told.pay with accept := accept, armed := arm }
            out := s.out ++ (if accept = s.pay.accept then [] else [.coin (.accept accept)])
              ++ (if arm = s.pay.armed then [] else if arm then [.card (.arm (saleTotal s))] else [.card .disarm])
            cond := { s.cond with salesOpen := t.cond.salesOpen }
            board := { s.board with windows := t.board.windows } })
        ∧ t.board.windows.map (fun w => { w with marked := false }) = s.board.windows.map (fun w => { w with marked := false })
        ∧ (told.pay.coinAvail ≠ s.pay.coinAvail ∨ told.pay.cardAvail ≠ s.pay.cardAvail ∨ t.cond.salesOpen ≠ s.cond.salesOpen →
            ∀ w ∈ t.board.windows, w.live = some .notices → w.marked = true)
    taken .coinReady true s.pay.cardReady s.pay.outstanding
    ∧ taken .coinNotReady false s.pay.cardReady none
    ∧ taken .cardReady s.pay.coinReady true s.pay.outstanding
    ∧ taken .cardNotReady s.pay.coinReady false s.pay.outstanding

/-- R163, R164: a TUBE SET: each count held at its capacity, the outstanding payout ended, the low states evaluated, TUBE_LOW raised
where one rises. -/
def Obligations.TubeSet : Prop :=
  ∀ (d : Dest) (a1 a0 b1 b0 c1 c0 d1 d0 : Byte) (s : State), s.powered = true →
    let counts : Tubes := ⟨beNat [a1, a0], beNat [b1, b0], beNat [c1, c0], beNat [d1, d0]⟩
    let held : Tubes := ⟨min counts.c10 150, min counts.c20 120, min counts.c50 100, min counts.c100 80⟩
    let lows := (decide (held.c10 ≤ s.settings.tubeLow10), decide (held.c20 ≤ s.settings.tubeLow20),
      decide (held.c50 ≤ s.settings.tubeLow50), decide (held.c100 ≤ s.settings.tubeLow100))
    let rises := (lows.1 && !s.pay.low10) || (lows.2.1 && !s.pay.low20) || (lows.2.2.1 && !s.pay.low50)
      || (lows.2.2.2 && !s.pay.low100)
    ∃ u, exec (.tubeSet d [a1, a0, b1, b0, c1, c0, d1, d0]) s =
        .next (answer d 0x0E (if held = counts then .accepted else .clamped) [0, 0, 0] u)
      ∧ u = { s with
          ret := { s.ret with tubes := held }
          pay := { s.pay with
            outstanding := none, low10 := lows.1, low20 := lows.2.1, low50 := lows.2.2.1, low100 := lows.2.2.2 }
          cond := { s.cond with pending := if rises then s.cond.pending ||| 0x0080#16 else s.cond.pending }
          line := { s.line with ownQ := u.line.ownQ, ownDrops := u.line.ownDrops }
          board := { s.board with windows := u.board.windows } }

/-- R168, R169, R204: the tokens of a body, eight bytes each; a DENY ADD joins all its new tokens where there is room for them, or none;
a DENY CONFIRM of the list's size makes the age 0, and any other is discarded. -/
def Obligations.DenyList : Prop :=
  ∀ (d : Dest) (n n1 n0 : Byte) (rest : List Byte) (s : State), s.powered = true →
    readTokens n.toNat rest =
      (if rest.length = 8 * n.toNat then some ((List.range n.toNat).map fun i => beNat ((rest.drop (8 * i)).take 8)) else none)
    ∧ (¬ (1 ≤ n.toNat ∧ n.toNat ≤ 24) ∨ readTokens n.toNat rest = none →
      exec (.denyAdd d (n :: rest)) s = .next (answer d 0x0F (.refused .field) [0, 0, 0] s))
    ∧ exec (.denyAdd d []) s = .next (answer d 0x0F (.refused .field) [0, 0, 0] s)
    ∧ (∀ ts, 1 ≤ n.toNat → n.toNat ≤ 24 → readTokens n.toNat rest = some ts → s.pay.deny.Pairwise (· < ·) →
      (s.pay.deny.length + (ts.dedup.filter fun x => decide (x ∉ s.pay.deny)).length ≤ 2048 →
        ∃ u, exec (.denyAdd d (n :: rest)) s = .next (answer d 0x0F .accepted [0, 0, 0] u)
          ∧ u = { s with pay := { s.pay with deny := u.pay.deny } } ∧ u.pay.deny.Pairwise (· < ·)
          ∧ ∀ x, x ∈ u.pay.deny ↔ x ∈ s.pay.deny ∨ x ∈ ts)
      ∧ (2048 < s.pay.deny.length + (ts.dedup.filter fun x => decide (x ∉ s.pay.deny)).length →
        exec (.denyAdd d (n :: rest)) s = .next (answer d 0x0F .full [0, 0, 0] s)))
    ∧ (beNat [n1, n0] ≠ s.pay.deny.length → exec (.denyConfirm d [n1, n0]) s = .next s)
    ∧ (beNat [n1, n0] = s.pay.deny.length → ∃ t, exec (.denyConfirm d [n1, n0]) s = .next t
        ∧ t.pay.denyAge = 0 ∧ t.pay.denyOld = denyOldNow t ∧ t.pay.deny = s.pay.deny ∧ t.ret = s.ret
        ∧ t.settings = s.settings ∧ t.clock = s.clock)

/-! ### Serials and journal (chapter 10) -/

/-- R183: a SERIAL BLOCK by its checks in order: FIELD, ORDER, then the room of the two blocks. An accepted block is evaluated by
R182. -/
def Obligations.SerialBlockTaken : Prop :=
  ∀ (d : Dest) (f3 f2 f1 f0 c3 c2 c1 c0 : Byte) (s : State), s.powered = true →
    let body := [f3, f2, f1, f0, c3, c2, c1, c0]
    let first := beNat [f3, f2, f1, f0]
    let count := beNat [c3, c2, c1, c0]
    let field := 1 ≤ count ∧ count ≤ 100000 ∧ 1 ≤ first ∧ first + count - 1 ≤ 4294967295
    let order := s.ret.lastSerial < first
      ∧ (s.ret.current.count ≠ 0 → s.ret.current.first + s.ret.current.count - 1 < first)
      ∧ (s.ret.standby.count ≠ 0 → s.ret.standby.first + s.ret.standby.count - 1 < first)
    (¬ field → exec (.serialBlock d body) s = .next (answer d 0x11 (.refused .field) [0, 0, 0] s))
    ∧ (field → ¬ order → exec (.serialBlock d body) s = .next (answer d 0x11 (.refused .order) [0, 0, 0] s))
    ∧ (field → order → s.ret.current.count ≠ 0 → s.ret.standby.count ≠ 0 →
        exec (.serialBlock d body) s = .next (answer d 0x11 .full [0, 0, 0] s))
    ∧ (field → order → s.ret.current.count = 0 ∨ s.ret.standby.count = 0 →
        ∃ u, exec (.serialBlock d body) s = .next (answer d 0x11 .accepted [0, 0, 0] u)
          ∧ u.ret = (if s.ret.current.count = 0 then { s.ret with current := ⟨first, count⟩ }
              else { s.ret with standby := ⟨first, count⟩ })
          ∧ u.jrn.noSerials = noSerialsNow u ∧ u.jrn.serialsLow = serialsLowNow u
          ∧ (s.jrn.noSerials = true → u.cond.salesOpen = salesOpenNow u))

/-- R184 to R187, R190: the open record is the newest stored record while it has no kind. A JOURNAL ACK removes the acknowledged
records, a JOURNAL frame of up to four closed records is built, and the send point returns at the expiry of the ack timer. -/
def Obligations.JournalUpload : Prop :=
  ∀ (d : Dest) (n3 n2 n1 n0 : Byte) (s : State), s.powered = true → BuffersSafe s →
    let sent := beNat [n3, n2, n1, n0]
    let n := if s.jrn.highPoint ≤ sent then s.jrn.highPoint - 1 else sent
    let limit := if openRec s = none then s.ret.nextSeq else s.ret.nextSeq - 1
    let outstanding := s.jrn.sendPoint - s.ret.ackPoint
    let builds := s.line.linkLost = false ∧ s.line.straps.haltNumber ≠ 0 ∧ s.line.ownQ.length ≤ 3
      ∧ s.jrn.sendPoint < limit ∧ outstanding < 24
    let count := min 4 (min (24 - outstanding) (limit - s.jrn.sendPoint))
    (∀ r, openRec s = some r ↔ s.ret.ackPoint < s.ret.nextSeq
        ∧ ringAt s ((s.ret.nextSeq - 1 - 1) % 2048) = some (.ticket r) ∧ r.kind = .opened)
    ∧ (n < s.ret.ackPoint → exec (.journalAck d [n3, n2, n1, n0]) s = .next s)
    ∧ (s.ret.ackPoint ≤ n → ∃ t, exec (.journalAck d [n3, n2, n1, n0]) s = .next t
        ∧ t.ret = { s.ret with ackPoint := n + 1, ring := t.ret.ring }
        ∧ (∀ place, ringAt t place =
            if place ∈ (List.range' s.ret.ackPoint (n + 1 - s.ret.ackPoint)).map (fun q => (q - 1) % 2048) then none
            else ringAt s place)
        ∧ t.jrn.sendPoint = max s.jrn.sendPoint (n + 1) ∧ t.jrn.highPoint = s.jrn.highPoint
        ∧ t.jrn.ackTimer = (if s.jrn.sendPoint ≤ n + 1 then none else some 0)
        ∧ t.jrn.l1 = l1Now t ∧ t.jrn.l2 = l2Now t ∧ (t.jrn.l2 ≠ s.jrn.l2 → t.cond.salesOpen = salesOpenNow t))
    ∧ (¬ builds → exec .journalBuild s = .next s)
    ∧ (builds → exec .journalBuild s = .next { s with
        jrn := { s.jrn with
          sendPoint := s.jrn.sendPoint + count, highPoint := max s.jrn.highPoint (s.jrn.sendPoint + count) }
        line := { s.line with ownQ := s.line.ownQ ++
          [⟨.journal, ownChars s .journal (BitVec.ofNat 8 count :: (List.range count).flatMap fun i =>
            match ringAt s ((s.jrn.sendPoint + i - 1) % 2048) with | some r => recordBytes r | none => [])⟩] } })
    ∧ exec .ackTimerExpiry s = .next
        (if s.jrn.ackTimer = none then s
         else { s with jrn := { s.jrn with sendPoint := s.ret.ackPoint, ackTimer := none } })

/-! ### Conditions (chapter 11) -/

/-- R192, R193, R196, R197: FLAGS changes the named control flags together and their readers are evaluated: the availabilities, SALES_OPEN,
the NOTICES windows for a BANNER flag and the effective modes for QUIET; NOTICE CLEAR and NOTICE MASK change the named marks, and an
ALERT follows where a mask makes the alert set non-empty. Any other operation is discarded. -/
def Obligations.FlagsAndNotices : Prop :=
  ∀ (d : Dest) (op f3 f2 f1 f0 : Byte) (s : State), s.powered = true →
    let named := BitVec.ofNat 13 (beNat [f3, f2, f1, f0])
    let ctrl := if op = 1 then s.cond.ctrl ||| named else s.cond.ctrl &&& ~~~named
    let marks := BitVec.ofNat 16 (beNat [f1, f0])
    let masks := if op = 1 then s.cond.masks ||| marks else s.cond.masks &&& ~~~marks
    let masked : State := { s with cond := { s.cond with masks := masks } }
    (op ≠ 1 → op ≠ 2 →
      exec (.flags d [op, f3, f2, f1, f0]) s = .next s ∧ exec (.noticeMask d [op, f1, f0]) s = .next s)
    ∧ (op = 1 ∨ op = 2 →
      (ctrl = s.cond.ctrl → exec (.flags d [op, f3, f2, f1, f0]) s = .next s)
      ∧ (ctrl ≠ s.cond.ctrl → ∃ t, exec (.flags d [op, f3, f2, f1, f0]) s = .next t
        ∧ t.cond.ctrl = ctrl ∧ t.cond.masks = s.cond.masks
        ∧ t.pay.coinAvail = (ctrl.getLsbD 2 && s.pay.coinReady)
        ∧ t.pay.cardAvail = (ctrl.getLsbD 3 && !s.pay.denyOld && s.pay.cardReady)
        ∧ t.cond.salesOpen = salesOpenNow t
        ∧ ((∃ i, i < 4 ∧ ctrl.getLsbD (6 + i) ≠ s.cond.ctrl.getLsbD (6 + i))
              ∨ t.pay.coinAvail ≠ s.pay.coinAvail ∨ t.pay.cardAvail ≠ s.pay.cardAvail ∨ t.cond.salesOpen ≠ s.cond.salesOpen →
            ∀ w ∈ t.board.windows, w.live = some .notices → w.marked = true)
        ∧ (ctrl.getLsbD 5 ≠ s.cond.ctrl.getLsbD 5 → ∀ (i : Nat) (r : PanelRec), t.panels.recs[i]? = some r →
            r.present = true → r.eff = effectiveMode t (i + 1) r.mode)
        ∧ (ctrl.getLsbD 5 = s.cond.ctrl.getLsbD 5 → t.sale = s.sale → t.panels = s.panels)
        ∧ t.ret = s.ret ∧ t.clock = s.clock ∧ t.settings = s.settings ∧ t.fares = s.fares ∧ t.tt = s.tt)
      ∧ exec (.noticeMask d [op, f1, f0]) s = .next
          (if s.cond.pending &&& ~~~s.cond.masks = 0 ∧ s.cond.pending &&& ~~~masks ≠ 0 ∧ s.cond.ctrl.getLsbD 10 = true then
            handOwn .haltReport (reportBody .alert masked) masked
           else masked))
    ∧ exec (.noticeClear d [f1, f0]) s =
        .next { s with cond := { s.cond with pending := s.cond.pending &&& ~~~marks } }

/-- R199, R200, R202: a STATUS POLL builds a POLL report when it is addressed to this halt, then clears the counters when asked; the
report timer's expiry, which tests no count (log entry 4), asks for a PERIODIC report; bits 1 to 7 of the options byte are not read (log
entry 21). R196, R197: raising a notice makes it pending, and an ALERT follows where that makes the alert set non-empty while
REPORTS_ENABLE is set. FAULT CLEAR empties the fault capture record. R201: faults are taken one after another; the first fault fills it,
and from then on every step but one that may clear it leaves its contents as they are, the later-fault count alone rising. -/
def Obligations.ReportsAndFaultClear : Prop :=
  ∀ (options : Byte) (body : List Byte) (d : Dest) (s : State), s.powered = true →
    let polled := handOwn .haltReport (reportBody .poll s) s
    let cleared (u : State) : State := { u with
      line := { u.line with checkErrors := 0, transitDrops := 0, ownDrops := 0 }
      tt := { u.tt with unknownNotes := 0 } }
    let restarted : State := { s with cond := { s.cond with reportTimer := some 0 } }
    exec (.statusPoll .own [options]) s = .next (if options.getLsbD 0 then cleared polled else polled)
    ∧ exec (.statusPoll .all [options]) s = .next (if options.getLsbD 0 then cleared s else s)
    ∧ (body.length ≠ 1 →
        exec (.statusPoll d body) s = .next (answer d 0x0D (.refused .field) [0, 0, 0] s))
    ∧ (s.cond.reportTimer = none → exec .reportTimerExpiry s = .next s)
    ∧ (s.cond.reportTimer ≠ none → exec .reportTimerExpiry s = .next
        (if s.cond.ctrl.getLsbD 10 then handOwn .haltReport (reportBody .periodic restarted) restarted else restarted))
    ∧ [Notice.linkLost, .linkRestored, .journalL1, .journalL2, .serialsLow, .serialsOut, .standbyTaken, .tubeLow, .changeShort,
        .printerFault, .panelSilent, .denyOld, .stopUnconfirmed, .clockJumped, .faultCaptured, .timetableExpired].map noticeBit =
        List.range 16
    ∧ (∀ n : Notice,
        let raised : State := { s with cond := { s.cond with pending := s.cond.pending ||| 1#16 <<< noticeBit n } }
        raiseNotice n s =
          if s.cond.pending &&& ~~~s.cond.masks = 0 ∧ raised.cond.pending &&& ~~~s.cond.masks ≠ 0
              ∧ s.cond.ctrl.getLsbD 10 = true then
            handOwn .haltReport (reportBody .alert raised) raised
          else raised)
    ∧ exec (.faultClear d []) s = .next { s with cond := { s.cond with faultRec := none } }
    ∧ (body ≠ [] → exec (.faultClear d body) s = .next s)
    ∧ (∀ (f : TableFault) (fs : List TableFault),
        captureFaults (f :: fs) s = captureFaults fs (captureFault f s) ∧ captureFaults [] s = s
        ∧ (s.cond.faultRec = none → captureFault f s = raiseNotice .faultCaptured
            { s with cond := { s.cond with faultRec := some ⟨f.cause, f.origin, f.index, f.day, f.minute, 0⟩ } })
        ∧ (∀ r, s.cond.faultRec = some r → captureFault f s =
            { s with cond := { s.cond with faultRec := some { r with later := min (r.later + 1) 255 } } }))
    ∧ ∀ (r : FaultRec) (t : State), s.cond.faultRec = some r → r.later ≤ 255 → step s = .next t →
        (∀ c rest, s.pending = c :: rest → MayClearFault c = false) →
        ∃ n, r.later ≤ n ∧ n ≤ 255 ∧ t.cond.faultRec = some { r with later := n }

/-! ### Invariants (every chapter) -/

/-- R8 to R11, R13, R17, R20, R33, R35, R38, R41, R44, R50: every step keeps the bounds of the line unit, the settings and the clock, and of
the CLOCK SET in progress. -/
def Obligations.LineSettingsClockKept : Prop :=
  KeptByEveryStep fun s => LineSafe s ∧ SettingsSafe s.settings ∧ ClockSafe s

/-- R60, R62, R72, R75, R84, R86, R87, R105, R109, R163, R167, R169, R170, R173, R182, R183, R200: every step keeps the bounds of the
timetable's lists, each stop request for an entry that is present and neither DEPARTED, LAPSED nor CANCELLED, one service of a bank and
one entry of a list for one id, the day of each entry, the six panel records, the windows in rising order of number over rows of the
store, no two of them on one panel row and no two LIVE ones over one store row (R88), the canonical form of the row store and the
journal ring, the bounds of the tubes, the deny list and the tally, and the order of the serial blocks. -/
def Obligations.ListsAndStoresKept : Prop :=
  KeptByEveryStep fun s => TimetableSafe s ∧ BoardSafe s ∧ BuffersSafe s ∧ PaymentSafe s ∧ SerialsSafe s.ret

/-- R140, R142, R145, R147, R156: every step keeps the sale's timers in their states, SALES_OPEN under a sale that is not paid, and
the escrow to the sale. -/
def Obligations.SaleKept : Prop := KeptByEveryStep SaleSafe

/-- R155, R156, R163, R165, R169, R178, R179, R182, R184, R195: every step keeps the journal's points in order and its fill within
its capacity, and every flag that a rule derives continually as the rule derives it: `ConditionsSpelled` says from what. -/
def Obligations.JournalAndFlagsKept : Prop :=
  (∀ s : State, ConditionsSpelled s) ∧ KeptByEveryStep fun s => JournalSafe s ∧ FlagsDerived s

/-- 00_scope.md, Two Ways In: a message on a module port changes no table, no setting, no control flag and no mask. -/
def Obligations.ModuleMessagesChangeNoTable : Prop :=
  ∀ (c : Instr) (s t : State), FromModule c = true → exec c s = .next t →
    t.settings = s.settings ∧ t.cond.ctrl = s.cond.ctrl ∧ t.cond.masks = s.cond.masks ∧ t.fares = s.fares
      ∧ t.clock = s.clock ∧ t.loader = s.loader ∧ t.tt.running = s.tt.running ∧ t.tt.standing = s.tt.standing
      ∧ t.board.store = s.board.store ∧ t.board.panels = s.board.panels ∧ t.board.banners = s.board.banners
      ∧ t.board.version = s.board.version
      ∧ t.board.windows.map (fun w => { w with marked := false }) = s.board.windows.map (fun w => { w with marked := false })
      ∧ t.pay.deny = s.pay.deny ∧ t.pay.denyAge = s.pay.denyAge ∧ t.line.straps = s.line.straps

/-- Every invariant of this file holds of the state after reset. -/
def Obligations.ResetIsSafe : Prop :=
  LineSafe State.reset ∧ SettingsSafe State.reset.settings ∧ ClockSafe State.reset ∧ TimetableSafe State.reset
    ∧ BoardSafe State.reset ∧ BuffersSafe State.reset ∧ PaymentSafe State.reset ∧ SerialsSafe State.reset.ret ∧ SaleSafe State.reset
    ∧ JournalSafe State.reset ∧ FlagsDerived State.reset
end

