-- ==== Sys2Proof/Laws/State.lean ====
section
/-! SUPPORT. One lemma for each field of the state under each plain update, so that no proof unfolds a record update. -/

namespace Sys2Proof.Laws

open Sys2Proof Sys2Proof.Machine

/-! ### send -/

@[simp] theorem send_powered (m : OutMsg) (s : State) : (send m s).powered = s.powered := rfl
@[simp] theorem send_line (m : OutMsg) (s : State) : (send m s).line = s.line := rfl
@[simp] theorem send_loader (m : OutMsg) (s : State) : (send m s).loader = s.loader := rfl
@[simp] theorem send_settings (m : OutMsg) (s : State) : (send m s).settings = s.settings := rfl
@[simp] theorem send_clock (m : OutMsg) (s : State) : (send m s).clock = s.clock := rfl
@[simp] theorem send_tt (m : OutMsg) (s : State) : (send m s).tt = s.tt := rfl
@[simp] theorem send_board (m : OutMsg) (s : State) : (send m s).board = s.board := rfl
@[simp] theorem send_panels (m : OutMsg) (s : State) : (send m s).panels = s.panels := rfl
@[simp] theorem send_fares (m : OutMsg) (s : State) : (send m s).fares = s.fares := rfl
@[simp] theorem send_sale (m : OutMsg) (s : State) : (send m s).sale = s.sale := rfl
@[simp] theorem send_printerFault (m : OutMsg) (s : State) : (send m s).printerFault = s.printerFault := rfl
@[simp] theorem send_pay (m : OutMsg) (s : State) : (send m s).pay = s.pay := rfl
@[simp] theorem send_ret (m : OutMsg) (s : State) : (send m s).ret = s.ret := rfl
@[simp] theorem send_jrn (m : OutMsg) (s : State) : (send m s).jrn = s.jrn := rfl
@[simp] theorem send_cond (m : OutMsg) (s : State) : (send m s).cond = s.cond := rfl
@[simp] theorem send_out (m : OutMsg) (s : State) : (send m s).out = s.out ++ [m] := rfl
@[simp] theorem send_freeCount (m : OutMsg) (s : State) : (send m s).freeCount = s.freeCount := rfl
@[simp] theorem send_pending (m : OutMsg) (s : State) : (send m s).pending = s.pending := rfl

/-! ### tellConsole -/

@[simp] theorem tellConsole_powered (m : ConsoleMsg) (s : State) : (tellConsole m s).powered = s.powered := rfl
@[simp] theorem tellConsole_line (m : ConsoleMsg) (s : State) : (tellConsole m s).line = s.line := rfl
@[simp] theorem tellConsole_loader (m : ConsoleMsg) (s : State) : (tellConsole m s).loader = s.loader := rfl
@[simp] theorem tellConsole_settings (m : ConsoleMsg) (s : State) : (tellConsole m s).settings = s.settings := rfl
@[simp] theorem tellConsole_clock (m : ConsoleMsg) (s : State) : (tellConsole m s).clock = s.clock := rfl
@[simp] theorem tellConsole_tt (m : ConsoleMsg) (s : State) : (tellConsole m s).tt = s.tt := rfl
@[simp] theorem tellConsole_board (m : ConsoleMsg) (s : State) : (tellConsole m s).board = s.board := rfl
@[simp] theorem tellConsole_panels (m : ConsoleMsg) (s : State) : (tellConsole m s).panels = s.panels := rfl
@[simp] theorem tellConsole_fares (m : ConsoleMsg) (s : State) : (tellConsole m s).fares = s.fares := rfl
@[simp] theorem tellConsole_sale (m : ConsoleMsg) (s : State) : (tellConsole m s).sale = s.sale := rfl
@[simp] theorem tellConsole_printerFault (m : ConsoleMsg) (s : State) : (tellConsole m s).printerFault = s.printerFault := rfl
@[simp] theorem tellConsole_pay (m : ConsoleMsg) (s : State) : (tellConsole m s).pay = s.pay := rfl
@[simp] theorem tellConsole_ret (m : ConsoleMsg) (s : State) : (tellConsole m s).ret = s.ret := rfl
@[simp] theorem tellConsole_jrn (m : ConsoleMsg) (s : State) : (tellConsole m s).jrn = s.jrn := rfl
@[simp] theorem tellConsole_cond (m : ConsoleMsg) (s : State) : (tellConsole m s).cond = s.cond := rfl
@[simp] theorem tellConsole_out (m : ConsoleMsg) (s : State) : (tellConsole m s).out = s.out ++ [.console m] := rfl
@[simp] theorem tellConsole_freeCount (m : ConsoleMsg) (s : State) : (tellConsole m s).freeCount = s.freeCount := rfl
@[simp] theorem tellConsole_pending (m : ConsoleMsg) (s : State) : (tellConsole m s).pending = s.pending := rfl

/-! ### drawn -/

@[simp] theorem drawn_powered (s : State) : (drawn s).powered = s.powered := rfl
@[simp] theorem drawn_line (s : State) : (drawn s).line = s.line := rfl
@[simp] theorem drawn_loader (s : State) : (drawn s).loader = s.loader := rfl
@[simp] theorem drawn_settings (s : State) : (drawn s).settings = s.settings := rfl
@[simp] theorem drawn_clock (s : State) : (drawn s).clock = s.clock := rfl
@[simp] theorem drawn_tt (s : State) : (drawn s).tt = s.tt := rfl
@[simp] theorem drawn_board (s : State) : (drawn s).board = s.board := rfl
@[simp] theorem drawn_panels (s : State) : (drawn s).panels = s.panels := rfl
@[simp] theorem drawn_fares (s : State) : (drawn s).fares = s.fares := rfl
@[simp] theorem drawn_sale (s : State) : (drawn s).sale = s.sale := rfl
@[simp] theorem drawn_printerFault (s : State) : (drawn s).printerFault = s.printerFault := rfl
@[simp] theorem drawn_pay (s : State) : (drawn s).pay = s.pay := rfl
@[simp] theorem drawn_ret (s : State) : (drawn s).ret = s.ret := rfl
@[simp] theorem drawn_jrn (s : State) : (drawn s).jrn = s.jrn := rfl
@[simp] theorem drawn_cond (s : State) : (drawn s).cond = s.cond := rfl
@[simp] theorem drawn_out (s : State) : (drawn s).out = s.out := rfl
@[simp] theorem drawn_freeCount (s : State) : (drawn s).freeCount = s.freeCount + 1 := rfl
@[simp] theorem drawn_pending (s : State) : (drawn s).pending = s.pending := rfl

/-! ### saleToRest -/

@[simp] theorem saleToRest_powered (s : State) : (saleToRest s).powered = s.powered := rfl
@[simp] theorem saleToRest_line (s : State) : (saleToRest s).line = s.line := rfl
@[simp] theorem saleToRest_loader (s : State) : (saleToRest s).loader = s.loader := rfl
@[simp] theorem saleToRest_settings (s : State) : (saleToRest s).settings = s.settings := rfl
@[simp] theorem saleToRest_clock (s : State) : (saleToRest s).clock = s.clock := rfl
@[simp] theorem saleToRest_tt (s : State) : (saleToRest s).tt = s.tt := rfl
@[simp] theorem saleToRest_board (s : State) : (saleToRest s).board = s.board := rfl
@[simp] theorem saleToRest_panels (s : State) : (saleToRest s).panels = s.panels := rfl
@[simp] theorem saleToRest_fares (s : State) : (saleToRest s).fares = s.fares := rfl
@[simp] theorem saleToRest_sale (s : State) : (saleToRest s).sale = Sale.atRest := rfl
@[simp] theorem saleToRest_printerFault (s : State) : (saleToRest s).printerFault = s.printerFault := rfl
@[simp] theorem saleToRest_pay (s : State) : (saleToRest s).pay = s.pay := rfl
@[simp] theorem saleToRest_ret (s : State) : (saleToRest s).ret = s.ret := rfl
@[simp] theorem saleToRest_jrn (s : State) : (saleToRest s).jrn = s.jrn := rfl
@[simp] theorem saleToRest_cond (s : State) : (saleToRest s).cond = s.cond := rfl
@[simp] theorem saleToRest_out (s : State) : (saleToRest s).out = s.out := rfl
@[simp] theorem saleToRest_freeCount (s : State) : (saleToRest s).freeCount = s.freeCount := rfl
@[simp] theorem saleToRest_pending (s : State) : (saleToRest s).pending = s.pending := rfl

/-! ### markWindows -/

@[simp] theorem markWindows_powered (f : Window → Bool) (s : State) : (markWindows f s).powered = s.powered := rfl
@[simp] theorem markWindows_line (f : Window → Bool) (s : State) : (markWindows f s).line = s.line := rfl
@[simp] theorem markWindows_loader (f : Window → Bool) (s : State) : (markWindows f s).loader = s.loader := rfl
@[simp] theorem markWindows_settings (f : Window → Bool) (s : State) : (markWindows f s).settings = s.settings := rfl
@[simp] theorem markWindows_clock (f : Window → Bool) (s : State) : (markWindows f s).clock = s.clock := rfl
@[simp] theorem markWindows_tt (f : Window → Bool) (s : State) : (markWindows f s).tt = s.tt := rfl
@[simp] theorem markWindows_panels (f : Window → Bool) (s : State) : (markWindows f s).panels = s.panels := rfl
@[simp] theorem markWindows_fares (f : Window → Bool) (s : State) : (markWindows f s).fares = s.fares := rfl
@[simp] theorem markWindows_sale (f : Window → Bool) (s : State) : (markWindows f s).sale = s.sale := rfl
@[simp] theorem markWindows_printerFault (f : Window → Bool) (s : State) : (markWindows f s).printerFault = s.printerFault := rfl
@[simp] theorem markWindows_pay (f : Window → Bool) (s : State) : (markWindows f s).pay = s.pay := rfl
@[simp] theorem markWindows_ret (f : Window → Bool) (s : State) : (markWindows f s).ret = s.ret := rfl
@[simp] theorem markWindows_jrn (f : Window → Bool) (s : State) : (markWindows f s).jrn = s.jrn := rfl
@[simp] theorem markWindows_cond (f : Window → Bool) (s : State) : (markWindows f s).cond = s.cond := rfl
@[simp] theorem markWindows_out (f : Window → Bool) (s : State) : (markWindows f s).out = s.out := rfl
@[simp] theorem markWindows_freeCount (f : Window → Bool) (s : State) : (markWindows f s).freeCount = s.freeCount := rfl
@[simp] theorem markWindows_pending (f : Window → Bool) (s : State) : (markWindows f s).pending = s.pending := rfl

/-! ### markNotices -/

@[simp] theorem markNotices_powered (s : State) : (markNotices s).powered = s.powered := rfl
@[simp] theorem markNotices_line (s : State) : (markNotices s).line = s.line := rfl
@[simp] theorem markNotices_loader (s : State) : (markNotices s).loader = s.loader := rfl
@[simp] theorem markNotices_settings (s : State) : (markNotices s).settings = s.settings := rfl
@[simp] theorem markNotices_clock (s : State) : (markNotices s).clock = s.clock := rfl
@[simp] theorem markNotices_tt (s : State) : (markNotices s).tt = s.tt := rfl
@[simp] theorem markNotices_panels (s : State) : (markNotices s).panels = s.panels := rfl
@[simp] theorem markNotices_fares (s : State) : (markNotices s).fares = s.fares := rfl
@[simp] theorem markNotices_sale (s : State) : (markNotices s).sale = s.sale := rfl
@[simp] theorem markNotices_printerFault (s : State) : (markNotices s).printerFault = s.printerFault := rfl
@[simp] theorem markNotices_pay (s : State) : (markNotices s).pay = s.pay := rfl
@[simp] theorem markNotices_ret (s : State) : (markNotices s).ret = s.ret := rfl
@[simp] theorem markNotices_jrn (s : State) : (markNotices s).jrn = s.jrn := rfl
@[simp] theorem markNotices_cond (s : State) : (markNotices s).cond = s.cond := rfl
@[simp] theorem markNotices_out (s : State) : (markNotices s).out = s.out := rfl
@[simp] theorem markNotices_freeCount (s : State) : (markNotices s).freeCount = s.freeCount := rfl
@[simp] theorem markNotices_pending (s : State) : (markNotices s).pending = s.pending := rfl

/-! ### markTrains -/

@[simp] theorem markTrains_powered (s : State) : (markTrains s).powered = s.powered := rfl
@[simp] theorem markTrains_line (s : State) : (markTrains s).line = s.line := rfl
@[simp] theorem markTrains_loader (s : State) : (markTrains s).loader = s.loader := rfl
@[simp] theorem markTrains_settings (s : State) : (markTrains s).settings = s.settings := rfl
@[simp] theorem markTrains_clock (s : State) : (markTrains s).clock = s.clock := rfl
@[simp] theorem markTrains_tt (s : State) : (markTrains s).tt = s.tt := rfl
@[simp] theorem markTrains_panels (s : State) : (markTrains s).panels = s.panels := rfl
@[simp] theorem markTrains_fares (s : State) : (markTrains s).fares = s.fares := rfl
@[simp] theorem markTrains_sale (s : State) : (markTrains s).sale = s.sale := rfl
@[simp] theorem markTrains_printerFault (s : State) : (markTrains s).printerFault = s.printerFault := rfl
@[simp] theorem markTrains_pay (s : State) : (markTrains s).pay = s.pay := rfl
@[simp] theorem markTrains_ret (s : State) : (markTrains s).ret = s.ret := rfl
@[simp] theorem markTrains_jrn (s : State) : (markTrains s).jrn = s.jrn := rfl
@[simp] theorem markTrains_cond (s : State) : (markTrains s).cond = s.cond := rfl
@[simp] theorem markTrains_out (s : State) : (markTrains s).out = s.out := rfl
@[simp] theorem markTrains_freeCount (s : State) : (markTrains s).freeCount = s.freeCount := rfl
@[simp] theorem markTrains_pending (s : State) : (markTrains s).pending = s.pending := rfl

/-! ### markLive -/

@[simp] theorem markLive_powered (s : State) : (markLive s).powered = s.powered := rfl
@[simp] theorem markLive_line (s : State) : (markLive s).line = s.line := rfl
@[simp] theorem markLive_loader (s : State) : (markLive s).loader = s.loader := rfl
@[simp] theorem markLive_settings (s : State) : (markLive s).settings = s.settings := rfl
@[simp] theorem markLive_clock (s : State) : (markLive s).clock = s.clock := rfl
@[simp] theorem markLive_tt (s : State) : (markLive s).tt = s.tt := rfl
@[simp] theorem markLive_panels (s : State) : (markLive s).panels = s.panels := rfl
@[simp] theorem markLive_fares (s : State) : (markLive s).fares = s.fares := rfl
@[simp] theorem markLive_sale (s : State) : (markLive s).sale = s.sale := rfl
@[simp] theorem markLive_printerFault (s : State) : (markLive s).printerFault = s.printerFault := rfl
@[simp] theorem markLive_pay (s : State) : (markLive s).pay = s.pay := rfl
@[simp] theorem markLive_ret (s : State) : (markLive s).ret = s.ret := rfl
@[simp] theorem markLive_jrn (s : State) : (markLive s).jrn = s.jrn := rfl
@[simp] theorem markLive_cond (s : State) : (markLive s).cond = s.cond := rfl
@[simp] theorem markLive_out (s : State) : (markLive s).out = s.out := rfl
@[simp] theorem markLive_freeCount (s : State) : (markLive s).freeCount = s.freeCount := rfl
@[simp] theorem markLive_pending (s : State) : (markLive s).pending = s.pending := rfl

/-! ### tellComposer -/

@[simp] theorem tellComposer_powered (id day : Nat) (s : State) : (tellComposer id day s).powered = s.powered := rfl
@[simp] theorem tellComposer_line (id day : Nat) (s : State) : (tellComposer id day s).line = s.line := rfl
@[simp] theorem tellComposer_loader (id day : Nat) (s : State) : (tellComposer id day s).loader = s.loader := rfl
@[simp] theorem tellComposer_settings (id day : Nat) (s : State) : (tellComposer id day s).settings = s.settings := rfl
@[simp] theorem tellComposer_clock (id day : Nat) (s : State) : (tellComposer id day s).clock = s.clock := rfl
@[simp] theorem tellComposer_tt (id day : Nat) (s : State) : (tellComposer id day s).tt = s.tt := rfl
@[simp] theorem tellComposer_panels (id day : Nat) (s : State) : (tellComposer id day s).panels = s.panels := rfl
@[simp] theorem tellComposer_fares (id day : Nat) (s : State) : (tellComposer id day s).fares = s.fares := rfl
@[simp] theorem tellComposer_sale (id day : Nat) (s : State) : (tellComposer id day s).sale = s.sale := rfl
@[simp] theorem tellComposer_printerFault (id day : Nat) (s : State) : (tellComposer id day s).printerFault = s.printerFault := rfl
@[simp] theorem tellComposer_pay (id day : Nat) (s : State) : (tellComposer id day s).pay = s.pay := rfl
@[simp] theorem tellComposer_ret (id day : Nat) (s : State) : (tellComposer id day s).ret = s.ret := rfl
@[simp] theorem tellComposer_jrn (id day : Nat) (s : State) : (tellComposer id day s).jrn = s.jrn := rfl
@[simp] theorem tellComposer_cond (id day : Nat) (s : State) : (tellComposer id day s).cond = s.cond := rfl
@[simp] theorem tellComposer_out (id day : Nat) (s : State) : (tellComposer id day s).out = s.out := rfl
@[simp] theorem tellComposer_freeCount (id day : Nat) (s : State) : (tellComposer id day s).freeCount = s.freeCount := rfl
@[simp] theorem tellComposer_pending (id day : Nat) (s : State) : (tellComposer id day s).pending = s.pending := rfl

/-! ### evalPanels -/

@[simp] theorem evalPanels_powered (s : State) : (evalPanels s).powered = s.powered := rfl
@[simp] theorem evalPanels_line (s : State) : (evalPanels s).line = s.line := rfl
@[simp] theorem evalPanels_loader (s : State) : (evalPanels s).loader = s.loader := rfl
@[simp] theorem evalPanels_settings (s : State) : (evalPanels s).settings = s.settings := rfl
@[simp] theorem evalPanels_clock (s : State) : (evalPanels s).clock = s.clock := rfl
@[simp] theorem evalPanels_tt (s : State) : (evalPanels s).tt = s.tt := rfl
@[simp] theorem evalPanels_board (s : State) : (evalPanels s).board = s.board := rfl
@[simp] theorem evalPanels_fares (s : State) : (evalPanels s).fares = s.fares := rfl
@[simp] theorem evalPanels_sale (s : State) : (evalPanels s).sale = s.sale := rfl
@[simp] theorem evalPanels_printerFault (s : State) : (evalPanels s).printerFault = s.printerFault := rfl
@[simp] theorem evalPanels_pay (s : State) : (evalPanels s).pay = s.pay := rfl
@[simp] theorem evalPanels_ret (s : State) : (evalPanels s).ret = s.ret := rfl
@[simp] theorem evalPanels_jrn (s : State) : (evalPanels s).jrn = s.jrn := rfl
@[simp] theorem evalPanels_cond (s : State) : (evalPanels s).cond = s.cond := rfl
@[simp] theorem evalPanels_out (s : State) : (evalPanels s).out = s.out := rfl
@[simp] theorem evalPanels_freeCount (s : State) : (evalPanels s).freeCount = s.freeCount := rfl
@[simp] theorem evalPanels_pending (s : State) : (evalPanels s).pending = s.pending := rfl

/-! ### setLows -/

@[simp] theorem setLows_powered (s : State) : (setLows s).powered = s.powered := rfl
@[simp] theorem setLows_line (s : State) : (setLows s).line = s.line := rfl
@[simp] theorem setLows_loader (s : State) : (setLows s).loader = s.loader := rfl
@[simp] theorem setLows_settings (s : State) : (setLows s).settings = s.settings := rfl
@[simp] theorem setLows_clock (s : State) : (setLows s).clock = s.clock := rfl
@[simp] theorem setLows_tt (s : State) : (setLows s).tt = s.tt := rfl
@[simp] theorem setLows_board (s : State) : (setLows s).board = s.board := rfl
@[simp] theorem setLows_panels (s : State) : (setLows s).panels = s.panels := rfl
@[simp] theorem setLows_fares (s : State) : (setLows s).fares = s.fares := rfl
@[simp] theorem setLows_sale (s : State) : (setLows s).sale = s.sale := rfl
@[simp] theorem setLows_printerFault (s : State) : (setLows s).printerFault = s.printerFault := rfl
@[simp] theorem setLows_ret (s : State) : (setLows s).ret = s.ret := rfl
@[simp] theorem setLows_jrn (s : State) : (setLows s).jrn = s.jrn := rfl
@[simp] theorem setLows_cond (s : State) : (setLows s).cond = s.cond := rfl
@[simp] theorem setLows_out (s : State) : (setLows s).out = s.out := rfl
@[simp] theorem setLows_freeCount (s : State) : (setLows s).freeCount = s.freeCount := rfl
@[simp] theorem setLows_pending (s : State) : (setLows s).pending = s.pending := rfl

/-! ### sendPointReturns -/

@[simp] theorem sendPointReturns_powered (s : State) : (sendPointReturns s).powered = s.powered := rfl
@[simp] theorem sendPointReturns_line (s : State) : (sendPointReturns s).line = s.line := rfl
@[simp] theorem sendPointReturns_loader (s : State) : (sendPointReturns s).loader = s.loader := rfl
@[simp] theorem sendPointReturns_settings (s : State) : (sendPointReturns s).settings = s.settings := rfl
@[simp] theorem sendPointReturns_clock (s : State) : (sendPointReturns s).clock = s.clock := rfl
@[simp] theorem sendPointReturns_tt (s : State) : (sendPointReturns s).tt = s.tt := rfl
@[simp] theorem sendPointReturns_board (s : State) : (sendPointReturns s).board = s.board := rfl
@[simp] theorem sendPointReturns_panels (s : State) : (sendPointReturns s).panels = s.panels := rfl
@[simp] theorem sendPointReturns_fares (s : State) : (sendPointReturns s).fares = s.fares := rfl
@[simp] theorem sendPointReturns_sale (s : State) : (sendPointReturns s).sale = s.sale := rfl
@[simp] theorem sendPointReturns_printerFault (s : State) : (sendPointReturns s).printerFault = s.printerFault := rfl
@[simp] theorem sendPointReturns_pay (s : State) : (sendPointReturns s).pay = s.pay := rfl
@[simp] theorem sendPointReturns_ret (s : State) : (sendPointReturns s).ret = s.ret := rfl
@[simp] theorem sendPointReturns_cond (s : State) : (sendPointReturns s).cond = s.cond := rfl
@[simp] theorem sendPointReturns_out (s : State) : (sendPointReturns s).out = s.out := rfl
@[simp] theorem sendPointReturns_freeCount (s : State) : (sendPointReturns s).freeCount = s.freeCount := rfl
@[simp] theorem sendPointReturns_pending (s : State) : (sendPointReturns s).pending = s.pending := rfl

/-! ### setStaging -/

@[simp] theorem setStaging_powered (k : TableKind) (a : Option Staging) (s : State) : (setStaging k a s).powered = s.powered := rfl
@[simp] theorem setStaging_line (k : TableKind) (a : Option Staging) (s : State) : (setStaging k a s).line = s.line := rfl
@[simp] theorem setStaging_settings (k : TableKind) (a : Option Staging) (s : State) : (setStaging k a s).settings = s.settings := rfl
@[simp] theorem setStaging_clock (k : TableKind) (a : Option Staging) (s : State) : (setStaging k a s).clock = s.clock := rfl
@[simp] theorem setStaging_tt (k : TableKind) (a : Option Staging) (s : State) : (setStaging k a s).tt = s.tt := rfl
@[simp] theorem setStaging_board (k : TableKind) (a : Option Staging) (s : State) : (setStaging k a s).board = s.board := rfl
@[simp] theorem setStaging_panels (k : TableKind) (a : Option Staging) (s : State) : (setStaging k a s).panels = s.panels := rfl
@[simp] theorem setStaging_fares (k : TableKind) (a : Option Staging) (s : State) : (setStaging k a s).fares = s.fares := rfl
@[simp] theorem setStaging_sale (k : TableKind) (a : Option Staging) (s : State) : (setStaging k a s).sale = s.sale := rfl
@[simp] theorem setStaging_printerFault (k : TableKind) (a : Option Staging) (s : State) : (setStaging k a s).printerFault = s.printerFault := rfl
@[simp] theorem setStaging_pay (k : TableKind) (a : Option Staging) (s : State) : (setStaging k a s).pay = s.pay := rfl
@[simp] theorem setStaging_ret (k : TableKind) (a : Option Staging) (s : State) : (setStaging k a s).ret = s.ret := rfl
@[simp] theorem setStaging_jrn (k : TableKind) (a : Option Staging) (s : State) : (setStaging k a s).jrn = s.jrn := rfl
@[simp] theorem setStaging_cond (k : TableKind) (a : Option Staging) (s : State) : (setStaging k a s).cond = s.cond := rfl
@[simp] theorem setStaging_out (k : TableKind) (a : Option Staging) (s : State) : (setStaging k a s).out = s.out := rfl
@[simp] theorem setStaging_freeCount (k : TableKind) (a : Option Staging) (s : State) : (setStaging k a s).freeCount = s.freeCount := rfl
@[simp] theorem setStaging_pending (k : TableKind) (a : Option Staging) (s : State) : (setStaging k a s).pending = s.pending := rfl

/-! ### putRing -/

@[simp] theorem putRing_powered (p : Nat) (r : Option JRecord) (s : State) : (putRing p r s).powered = s.powered := rfl
@[simp] theorem putRing_line (p : Nat) (r : Option JRecord) (s : State) : (putRing p r s).line = s.line := rfl
@[simp] theorem putRing_loader (p : Nat) (r : Option JRecord) (s : State) : (putRing p r s).loader = s.loader := rfl
@[simp] theorem putRing_settings (p : Nat) (r : Option JRecord) (s : State) : (putRing p r s).settings = s.settings := rfl
@[simp] theorem putRing_clock (p : Nat) (r : Option JRecord) (s : State) : (putRing p r s).clock = s.clock := rfl
@[simp] theorem putRing_tt (p : Nat) (r : Option JRecord) (s : State) : (putRing p r s).tt = s.tt := rfl
@[simp] theorem putRing_board (p : Nat) (r : Option JRecord) (s : State) : (putRing p r s).board = s.board := rfl
@[simp] theorem putRing_panels (p : Nat) (r : Option JRecord) (s : State) : (putRing p r s).panels = s.panels := rfl
@[simp] theorem putRing_fares (p : Nat) (r : Option JRecord) (s : State) : (putRing p r s).fares = s.fares := rfl
@[simp] theorem putRing_sale (p : Nat) (r : Option JRecord) (s : State) : (putRing p r s).sale = s.sale := rfl
@[simp] theorem putRing_printerFault (p : Nat) (r : Option JRecord) (s : State) : (putRing p r s).printerFault = s.printerFault := rfl
@[simp] theorem putRing_pay (p : Nat) (r : Option JRecord) (s : State) : (putRing p r s).pay = s.pay := rfl
@[simp] theorem putRing_jrn (p : Nat) (r : Option JRecord) (s : State) : (putRing p r s).jrn = s.jrn := rfl
@[simp] theorem putRing_cond (p : Nat) (r : Option JRecord) (s : State) : (putRing p r s).cond = s.cond := rfl
@[simp] theorem putRing_out (p : Nat) (r : Option JRecord) (s : State) : (putRing p r s).out = s.out := rfl
@[simp] theorem putRing_freeCount (p : Nat) (r : Option JRecord) (s : State) : (putRing p r s).freeCount = s.freeCount := rfl
@[simp] theorem putRing_pending (p : Nat) (r : Option JRecord) (s : State) : (putRing p r s).pending = s.pending := rfl

/-! ### updPanel -/

@[simp] theorem updPanel_powered (p : Nat) (g : PanelRec → PanelRec) (s : State) : (updPanel p g s).powered = s.powered := by
  unfold updPanel; split <;> rfl
@[simp] theorem updPanel_line (p : Nat) (g : PanelRec → PanelRec) (s : State) : (updPanel p g s).line = s.line := by
  unfold updPanel; split <;> rfl
@[simp] theorem updPanel_loader (p : Nat) (g : PanelRec → PanelRec) (s : State) : (updPanel p g s).loader = s.loader := by
  unfold updPanel; split <;> rfl
@[simp] theorem updPanel_settings (p : Nat) (g : PanelRec → PanelRec) (s : State) : (updPanel p g s).settings = s.settings := by
  unfold updPanel; split <;> rfl
@[simp] theorem updPanel_clock (p : Nat) (g : PanelRec → PanelRec) (s : State) : (updPanel p g s).clock = s.clock := by
  unfold updPanel; split <;> rfl
@[simp] theorem updPanel_tt (p : Nat) (g : PanelRec → PanelRec) (s : State) : (updPanel p g s).tt = s.tt := by
  unfold updPanel; split <;> rfl
@[simp] theorem updPanel_board (p : Nat) (g : PanelRec → PanelRec) (s : State) : (updPanel p g s).board = s.board := by
  unfold updPanel; split <;> rfl
@[simp] theorem updPanel_fares (p : Nat) (g : PanelRec → PanelRec) (s : State) : (updPanel p g s).fares = s.fares := by
  unfold updPanel; split <;> rfl
@[simp] theorem updPanel_sale (p : Nat) (g : PanelRec → PanelRec) (s : State) : (updPanel p g s).sale = s.sale := by
  unfold updPanel; split <;> rfl
@[simp] theorem updPanel_printerFault (p : Nat) (g : PanelRec → PanelRec) (s : State) : (updPanel p g s).printerFault = s.printerFault := by
  unfold updPanel; split <;> rfl
@[simp] theorem updPanel_pay (p : Nat) (g : PanelRec → PanelRec) (s : State) : (updPanel p g s).pay = s.pay := by
  unfold updPanel; split <;> rfl
@[simp] theorem updPanel_ret (p : Nat) (g : PanelRec → PanelRec) (s : State) : (updPanel p g s).ret = s.ret := by
  unfold updPanel; split <;> rfl
@[simp] theorem updPanel_jrn (p : Nat) (g : PanelRec → PanelRec) (s : State) : (updPanel p g s).jrn = s.jrn := by
  unfold updPanel; split <;> rfl
@[simp] theorem updPanel_cond (p : Nat) (g : PanelRec → PanelRec) (s : State) : (updPanel p g s).cond = s.cond := by
  unfold updPanel; split <;> rfl
@[simp] theorem updPanel_out (p : Nat) (g : PanelRec → PanelRec) (s : State) : (updPanel p g s).out = s.out := by
  unfold updPanel; split <;> rfl
@[simp] theorem updPanel_freeCount (p : Nat) (g : PanelRec → PanelRec) (s : State) : (updPanel p g s).freeCount = s.freeCount := by
  unfold updPanel; split <;> rfl
@[simp] theorem updPanel_pending (p : Nat) (g : PanelRec → PanelRec) (s : State) : (updPanel p g s).pending = s.pending := by
  unfold updPanel; split <;> rfl

/-! ### evalPanel -/

@[simp] theorem evalPanel_powered (p : Nat) (s : State) : (evalPanel p s).powered = s.powered := updPanel_powered _ _ s
@[simp] theorem evalPanel_line (p : Nat) (s : State) : (evalPanel p s).line = s.line := updPanel_line _ _ s
@[simp] theorem evalPanel_loader (p : Nat) (s : State) : (evalPanel p s).loader = s.loader := updPanel_loader _ _ s
@[simp] theorem evalPanel_settings (p : Nat) (s : State) : (evalPanel p s).settings = s.settings := updPanel_settings _ _ s
@[simp] theorem evalPanel_clock (p : Nat) (s : State) : (evalPanel p s).clock = s.clock := updPanel_clock _ _ s
@[simp] theorem evalPanel_tt (p : Nat) (s : State) : (evalPanel p s).tt = s.tt := updPanel_tt _ _ s
@[simp] theorem evalPanel_board (p : Nat) (s : State) : (evalPanel p s).board = s.board := updPanel_board _ _ s
@[simp] theorem evalPanel_fares (p : Nat) (s : State) : (evalPanel p s).fares = s.fares := updPanel_fares _ _ s
@[simp] theorem evalPanel_sale (p : Nat) (s : State) : (evalPanel p s).sale = s.sale := updPanel_sale _ _ s
@[simp] theorem evalPanel_printerFault (p : Nat) (s : State) : (evalPanel p s).printerFault = s.printerFault := updPanel_printerFault _ _ s
@[simp] theorem evalPanel_pay (p : Nat) (s : State) : (evalPanel p s).pay = s.pay := updPanel_pay _ _ s
@[simp] theorem evalPanel_ret (p : Nat) (s : State) : (evalPanel p s).ret = s.ret := updPanel_ret _ _ s
@[simp] theorem evalPanel_jrn (p : Nat) (s : State) : (evalPanel p s).jrn = s.jrn := updPanel_jrn _ _ s
@[simp] theorem evalPanel_cond (p : Nat) (s : State) : (evalPanel p s).cond = s.cond := updPanel_cond _ _ s
@[simp] theorem evalPanel_out (p : Nat) (s : State) : (evalPanel p s).out = s.out := updPanel_out _ _ s
@[simp] theorem evalPanel_freeCount (p : Nat) (s : State) : (evalPanel p s).freeCount = s.freeCount := updPanel_freeCount _ _ s
@[simp] theorem evalPanel_pending (p : Nat) (s : State) : (evalPanel p s).pending = s.pending := updPanel_pending _ _ s

/-! ### takeSecond -/

@[simp] theorem takeSecond_powered (n : Nat) (s : State) : (takeSecond n s).powered = s.powered := rfl
@[simp] theorem takeSecond_line (n : Nat) (s : State) : (takeSecond n s).line = s.line := rfl
@[simp] theorem takeSecond_loader (n : Nat) (s : State) : (takeSecond n s).loader = s.loader := rfl
@[simp] theorem takeSecond_settings (n : Nat) (s : State) : (takeSecond n s).settings = s.settings := rfl
@[simp] theorem takeSecond_tt (n : Nat) (s : State) : (takeSecond n s).tt = s.tt := rfl
@[simp] theorem takeSecond_board (n : Nat) (s : State) : (takeSecond n s).board = s.board := rfl
@[simp] theorem takeSecond_panels (n : Nat) (s : State) : (takeSecond n s).panels = s.panels := rfl
@[simp] theorem takeSecond_fares (n : Nat) (s : State) : (takeSecond n s).fares = s.fares := rfl
@[simp] theorem takeSecond_sale (n : Nat) (s : State) : (takeSecond n s).sale = s.sale := rfl
@[simp] theorem takeSecond_printerFault (n : Nat) (s : State) : (takeSecond n s).printerFault = s.printerFault := rfl
@[simp] theorem takeSecond_pay (n : Nat) (s : State) : (takeSecond n s).pay = s.pay := rfl
@[simp] theorem takeSecond_ret (n : Nat) (s : State) : (takeSecond n s).ret = s.ret := rfl
@[simp] theorem takeSecond_jrn (n : Nat) (s : State) : (takeSecond n s).jrn = s.jrn := rfl
@[simp] theorem takeSecond_cond (n : Nat) (s : State) : (takeSecond n s).cond = s.cond := rfl
@[simp] theorem takeSecond_out (n : Nat) (s : State) : (takeSecond n s).out = s.out := rfl
@[simp] theorem takeSecond_freeCount (n : Nat) (s : State) : (takeSecond n s).freeCount = s.freeCount := rfl
@[simp] theorem takeSecond_pending (n : Nat) (s : State) : (takeSecond n s).pending = s.pending := rfl
@[simp] theorem takeSecond_clock (n : Nat) (s : State) :
    (takeSecond n s).clock = { s.clock with second := n, move := none } := rfl

/-! ### handOwn and answer -/

@[simp] theorem handOwn_powered (k : OwnKind) (b : List Byte) (s : State) : (handOwn k b s).powered = s.powered := by
  unfold handOwn; split <;> rfl
@[simp] theorem handOwn_loader (k : OwnKind) (b : List Byte) (s : State) : (handOwn k b s).loader = s.loader := by
  unfold handOwn; split <;> rfl
@[simp] theorem handOwn_settings (k : OwnKind) (b : List Byte) (s : State) : (handOwn k b s).settings = s.settings := by
  unfold handOwn; split <;> rfl
@[simp] theorem handOwn_clock (k : OwnKind) (b : List Byte) (s : State) : (handOwn k b s).clock = s.clock := by
  unfold handOwn; split <;> rfl
@[simp] theorem handOwn_tt (k : OwnKind) (b : List Byte) (s : State) : (handOwn k b s).tt = s.tt := by
  unfold handOwn; split <;> rfl
@[simp] theorem handOwn_board (k : OwnKind) (b : List Byte) (s : State) : (handOwn k b s).board = s.board := by
  unfold handOwn; split <;> rfl
@[simp] theorem handOwn_panels (k : OwnKind) (b : List Byte) (s : State) : (handOwn k b s).panels = s.panels := by
  unfold handOwn; split <;> rfl
@[simp] theorem handOwn_fares (k : OwnKind) (b : List Byte) (s : State) : (handOwn k b s).fares = s.fares := by
  unfold handOwn; split <;> rfl
@[simp] theorem handOwn_sale (k : OwnKind) (b : List Byte) (s : State) : (handOwn k b s).sale = s.sale := by
  unfold handOwn; split <;> rfl
@[simp] theorem handOwn_printerFault (k : OwnKind) (b : List Byte) (s : State) : (handOwn k b s).printerFault = s.printerFault := by
  unfold handOwn; split <;> rfl
@[simp] theorem handOwn_pay (k : OwnKind) (b : List Byte) (s : State) : (handOwn k b s).pay = s.pay := by
  unfold handOwn; split <;> rfl
@[simp] theorem handOwn_ret (k : OwnKind) (b : List Byte) (s : State) : (handOwn k b s).ret = s.ret := by
  unfold handOwn; split <;> rfl
@[simp] theorem handOwn_jrn (k : OwnKind) (b : List Byte) (s : State) : (handOwn k b s).jrn = s.jrn := by
  unfold handOwn; split <;> rfl
@[simp] theorem handOwn_cond (k : OwnKind) (b : List Byte) (s : State) : (handOwn k b s).cond = s.cond := by
  unfold handOwn; split <;> rfl
@[simp] theorem handOwn_out (k : OwnKind) (b : List Byte) (s : State) : (handOwn k b s).out = s.out := by
  unfold handOwn; split <;> rfl
@[simp] theorem handOwn_freeCount (k : OwnKind) (b : List Byte) (s : State) : (handOwn k b s).freeCount = s.freeCount := by
  unfold handOwn; split <;> rfl
@[simp] theorem handOwn_pending (k : OwnKind) (b : List Byte) (s : State) : (handOwn k b s).pending = s.pending := by
  unfold handOwn; split <;> rfl
@[simp] theorem answer_powered (d : Dest) (k : Byte) (a : Answer) (r : List Byte) (s : State) :
    (answer d k a r s).powered = s.powered := by
  unfold answer; split <;> simp
@[simp] theorem answer_loader (d : Dest) (k : Byte) (a : Answer) (r : List Byte) (s : State) :
    (answer d k a r s).loader = s.loader := by
  unfold answer; split <;> simp
@[simp] theorem answer_settings (d : Dest) (k : Byte) (a : Answer) (r : List Byte) (s : State) :
    (answer d k a r s).settings = s.settings := by
  unfold answer; split <;> simp
@[simp] theorem answer_clock (d : Dest) (k : Byte) (a : Answer) (r : List Byte) (s : State) :
    (answer d k a r s).clock = s.clock := by
  unfold answer; split <;> simp
@[simp] theorem answer_tt (d : Dest) (k : Byte) (a : Answer) (r : List Byte) (s : State) :
    (answer d k a r s).tt = s.tt := by
  unfold answer; split <;> simp
@[simp] theorem answer_board (d : Dest) (k : Byte) (a : Answer) (r : List Byte) (s : State) :
    (answer d k a r s).board = s.board := by
  unfold answer; split <;> simp
@[simp] theorem answer_panels (d : Dest) (k : Byte) (a : Answer) (r : List Byte) (s : State) :
    (answer d k a r s).panels = s.panels := by
  unfold answer; split <;> simp
@[simp] theorem answer_fares (d : Dest) (k : Byte) (a : Answer) (r : List Byte) (s : State) :
    (answer d k a r s).fares = s.fares := by
  unfold answer; split <;> simp
@[simp] theorem answer_sale (d : Dest) (k : Byte) (a : Answer) (r : List Byte) (s : State) :
    (answer d k a r s).sale = s.sale := by
  unfold answer; split <;> simp
@[simp] theorem answer_printerFault (d : Dest) (k : Byte) (a : Answer) (r : List Byte) (s : State) :
    (answer d k a r s).printerFault = s.printerFault := by
  unfold answer; split <;> simp
@[simp] theorem answer_pay (d : Dest) (k : Byte) (a : Answer) (r : List Byte) (s : State) :
    (answer d k a r s).pay = s.pay := by
  unfold answer; split <;> simp
@[simp] theorem answer_ret (d : Dest) (k : Byte) (a : Answer) (r : List Byte) (s : State) :
    (answer d k a r s).ret = s.ret := by
  unfold answer; split <;> simp
@[simp] theorem answer_jrn (d : Dest) (k : Byte) (a : Answer) (r : List Byte) (s : State) :
    (answer d k a r s).jrn = s.jrn := by
  unfold answer; split <;> simp
@[simp] theorem answer_cond (d : Dest) (k : Byte) (a : Answer) (r : List Byte) (s : State) :
    (answer d k a r s).cond = s.cond := by
  unfold answer; split <;> simp
@[simp] theorem answer_out (d : Dest) (k : Byte) (a : Answer) (r : List Byte) (s : State) :
    (answer d k a r s).out = s.out := by
  unfold answer; split <;> simp
@[simp] theorem answer_freeCount (d : Dest) (k : Byte) (a : Answer) (r : List Byte) (s : State) :
    (answer d k a r s).freeCount = s.freeCount := by
  unfold answer; split <;> simp
@[simp] theorem answer_pending (d : Dest) (k : Byte) (a : Answer) (r : List Byte) (s : State) :
    (answer d k a r s).pending = s.pending := by
  unfold answer; split <;> simp

/-! ### The versions a halt report carries (Table 11-5) -/

theorem windowTableEmpty_iff (b : Board) :
    windowTableEmpty b = true ↔ b.panels = [] ∧ b.windows = [] ∧ ∀ row ∈ b.banners, row = spaces := by
  simp [windowTableEmpty, and_assoc]

/-- Table 11-5: the reported version of the window table, all it can be. -/
theorem windowVersion_eq (b : Board) :
    windowVersion b = if b.panels = [] ∧ b.windows = [] ∧ ∀ row ∈ b.banners, row = spaces then 0 else b.version := by
  simp only [windowVersion, windowTableEmpty_iff]

/-- Table 11-5: the reported version of the cadence table, all it can be. -/
theorem cadenceVersion_eq (c : Clock) : cadenceVersion c = if c.cadence = [] then 0 else c.cadenceVersion := by
  simp [cadenceVersion]

end Sys2Proof.Laws
end

