-- ==== Sys2Proof/Laws/Clock.lean ====
section
/-! SUPPORT. What the clock does with a CLOCK SET in progress and with a minute tick, said once (R38, R41, R44, R46). -/

namespace Sys2Proof.Laws

open Sys2Proof Sys2Proof.Machine

/-- R44: with no set in progress nothing goes on. -/
theorem goOn_none (s : State) (h : s.clock.move = none) : goOn s = s := by simp [goOn, h]

/-- R41, R44: a set in progress makes some of its ticks, at least one and at most all that are left. -/
theorem goOn_some (s : State) (m : ClockMove) (h : s.clock.move = some m) (hl : 1 ≤ m.left) :
    ∃ n, 1 ≤ n ∧ n ≤ m.left ∧ goOn s = makeTicks n m (drawn s) := by
  refine ⟨min m.left (1 + Config.freeChoice s.freeCount % m.left), by omega, by omega, ?_⟩
  simp [goOn, h]

/-- R44: while ticks are left the set stays in progress, less the ticks made. -/
theorem makeTicks_part (n : Nat) (m : ClockMove) (s : State) (h : n < m.left) :
    makeTicks n m s = { catchUp n s with
      clock := { (catchUp n s).clock with move := some { m with left := m.left - n } } } := by
  simp [makeTicks, h]

/-- R41, R44: with its last tick the set takes its second and is answered, and what waited is taken. -/
theorem makeTicks_all (m : ClockMove) (s : State) :
    makeTicks m.left m s = takeWaiting (catchUp m.left s).clock.waiting
      (answerSet m.to_ .accepted (takeSecond m.second (catchUp m.left s))) := by
  simp [makeTicks, answerSet]

/-- R41: with nothing waiting nothing is taken. -/
theorem takeWaiting_nil (s : State) : takeWaiting [] s = { s with clock := { s.clock with waiting := [] } } := rfl

/-- R41: behind a set that makes ticks of its own the rest goes on waiting. -/
theorem takeWaiting_of_moving (w : Dest × Option ClockFields) (ws : List (Dest × Option ClockFields)) (s : State)
    (h : s.clock.move.isSome = true) :
    takeWaiting (w :: ws) s = { s with clock := { s.clock with waiting := w :: ws } } := by
  simp [takeWaiting, h]

/-- R41, R16: with no set in progress the oldest that waits is taken, then the rest. -/
theorem takeWaiting_of_free (w : Dest × Option ClockFields) (ws : List (Dest × Option ClockFields)) (s : State)
    (h : s.clock.move = none) : takeWaiting (w :: ws) s = takeWaiting ws (takeChecked w.1 w.2 s) := by
  simp [takeWaiting, h]

/-- R41, R16: a CLOCK SET that comes while another is in progress waits, whatever its body. -/
theorem takeClockSet_of_moving (d : Dest) (body : List Byte) (s : State) (h : s.clock.move.isSome = true) :
    takeClockSet d body s = { s with
      clock := { s.clock with waiting := s.clock.waiting ++ [(d, clockFields body)] } } := by
  simp [takeClockSet, h]

/-- R41, R32: with no set in progress a CLOCK SET that fails its checks is refused at once. -/
theorem takeClockSet_refused (d : Dest) (body : List Byte) (s : State) (h : s.clock.move = none)
    (hf : clockFields body = none) : takeClockSet d body s = answer d 0x05 (.refused .field) noRef s := by
  simp only [takeClockSet, h, hf, takeChecked, answerSet]
  exact goOn_none _ (by simpa using h)

/-- R38, R46: outside a set, a tick of ordinary running falls at second 59 only (that it does so right behind a CLOCK SET too is log entry
48). -/
theorem nextTick_none (s : State) (h : s.clock.move = none) :
    nextTick s = if s.clock.second = 59 then minuteAdvance s else s := by
  simp [nextTick, h]

/-- R44: during a set the next tick is one of its own. -/
theorem nextTick_some (s : State) (m : ClockMove) (h : s.clock.move = some m) : nextTick s = goOn s := by
  simp [nextTick, h]

end Sys2Proof.Laws
end

