-- ==== Sys2Proof/Laws/Fares.lean ====
section
/-! SUPPORT. The roundings of the fare stages as exact ceilings and floors (R2), and that a fare is a multiple of the step. -/

namespace Sys2Proof.Laws

open Sys2Proof Sys2Proof.Machine

/-- R2: a quotient rounded up is the ceiling of the exact quotient. -/
theorem ceilDiv_eq_ceil (a b : Nat) (h : 1 ≤ b) : ceilDiv a b = ⌈(a : ℚ) / b⌉₊ := by
  have hb : (0 : ℚ) < b := by exact_mod_cast h
  unfold ceilDiv
  apply le_antisymm
  · rw [Nat.div_le_iff_le_mul_add_pred h]
    have hle : (a : ℚ) ≤ (⌈(a : ℚ) / b⌉₊ : ℚ) * b := (div_le_iff₀ hb).1 (Nat.le_ceil _)
    have hle' : a ≤ ⌈(a : ℚ) / b⌉₊ * b := by exact_mod_cast hle
    rw [Nat.mul_comm]
    omega
  · rw [Nat.ceil_le, div_le_iff₀ hb]
    have hlt : a + b - 1 < ((a + b - 1) / b + 1) * b := by
      rw [Nat.mul_comm]
      exact Nat.lt_mul_div_succ _ h
    have hle : a ≤ (a + b - 1) / b * b := by
      rw [Nat.add_mul] at hlt
      omega
    exact_mod_cast hle

/-- R2: a quotient rounded down is the floor of the exact quotient. -/
theorem div_eq_floor (a b : Nat) : a / b = ⌊(a : ℚ) / b⌋₊ := (Nat.floor_div_natCast (a : ℚ) b ▸ by simp)

/-- R126: the fare of a product is a multiple of the step when the single is. -/
theorem step_dvd_productFare (g : Tariff) (step : Nat) (p : Product) (x : Nat) (h : step ∣ x) : step ∣ productFare g step p x := by
  cases p
  · exact h
  · exact Dvd.intro_left _ rfl

/-- R124: the capped single is a multiple of the step. -/
theorem step_dvd_cappedAdult (g : Tariff) (step : Nat) (a : Nat) (ha : step ∣ a) (hc : step ∣ g.cap) : step ∣ cappedAdult g a := by
  unfold cappedAdult
  split
  · exact ha
  · rcases min_choice a g.cap with h | h <;> rw [h] <;> assumption

/-- R123: the banded single is a multiple of the step. -/
theorem step_dvd_bandedAdult (g : Tariff) (step : Nat) (band : Band) (a : Nat) : step ∣ bandedAdult g step band a := by
  cases band <;> exact Dvd.intro_left _ rfl

/-- R125: the child single is a multiple of the step. -/
theorem step_dvd_childSingle (step childMin a : Nat) (hm : step ∣ childMin) (ha : step ∣ a) : step ∣ childSingle step childMin a := by
  unfold childSingle
  have half : step ∣ a / (2 * step) * step := Dvd.intro_left _ rfl
  rcases min_choice (max (a / (2 * step) * step) childMin) a with h | h <;> rw [h]
  · rcases max_choice (a / (2 * step) * step) childMin with h | h <;> rw [h] <;> assumption
  · exact ha

end Sys2Proof.Laws
end

