-- ==== Sys2Proof/Laws/Frames.lean ====
section
/-! SUPPORT. What the frame check and the address filter do, in the terms of the claims: the check is `ValidFrame`, and a consumed
frame is the command of its kind. -/

namespace Sys2Proof.Laws

open Sys2Proof Sys2Proof.Machine

/-- R6: the check the port computes is the test of the rule. -/
theorem frameGood_iff_validFrame (dir : FrameDir) (chars : List Byte) : frameGood dir chars = true ↔ ValidFrame dir chars := by
  unfold frameGood ValidFrame checkGood
  rcases chars with _ | ⟨a, _ | ⟨b, _ | ⟨l, rest⟩⟩⟩
  · simp
  · simp
  · simp
  · have high : a.getLsbD 7 = decide (128 ≤ a.toNat) := by revert a; decide
    simp only [high, Config.frameMax, Config.bodyMax]
    cases dir <;> simp <;> constructor <;> intro h <;> simp_all <;> omega

/-- R15, Table 12-2: with power, consuming a frame is running the command of its kind, or nothing. -/
theorem consume_frameCommand (kind : Byte) (d : Dest) (body : List Byte) (s : State) (h : s.powered = true) :
    Host.Outcome.next (consume kind d body s) =
      (match frameCommand kind d body with
       | some c => exec c s
       | none => .next s) := by
  unfold consume frameCommand
  split <;>
    simp_all [exec, execLoadBegin, execLoadSegment, execLoadEnd, execSetting, execClockSet, execRunningUpdate, execRowWrite,
      execPanelMode, execFlags, execNoticeClear, execNoticeMask, execFaultClear, execStatusPoll, execTubeSet, execDenyAdd,
      execDenyConfirm, execSerialBlock, execJournalAck, execRestart, whenPowered]

end Sys2Proof.Laws
end

