-- ==== Sys2Proof/Laws/Interleave.lean ====
section
/-! SUPPORT. What a free interleaving can do (log entry 2): whatever order is drawn, a property that every work keeps is kept, and the
works are all run, those of one owner in their order. -/

namespace Sys2Proof.Laws

open Sys2Proof.Machine

variable {ω : Type} (run : ω → State → State)

/-- A property kept by a draw and by every work of the owners is kept by their interleaving. -/
theorem interleave_keeps (P : State → Prop) (hd : ∀ s, P s → P (drawn s)) :
    ∀ (fuel : Nat) (owners : List (List ω)) (s : State),
      (∀ l ∈ owners, ∀ w ∈ l, ∀ s, P s → P (run w s)) → P s → P (interleave run fuel owners s)
  | 0, _, _, _, h => h
  | fuel + 1, owners, s, hr, h => by
    simp only [interleave]
    split
    · exact h
    · rename_i l hl
      have hmem : l ∈ owners.filter fun l => !l.isEmpty := List.mem_of_getElem? hl
      have hl' : l ∈ owners := (List.mem_filter.1 hmem).1
      split
      · exact h
      · rename_i w rest
        refine interleave_keeps P hd fuel _ _ ?_ (hr _ hl' w (by simp) _ (hd s h))
        intro k hk v hv
        rcases List.mem_or_eq_of_mem_set hk with hk | rfl
        · exact hr k (List.mem_filter.1 hk).1 v hv
        · exact hr _ hl' v (by simp [hv])

/-- The works of owners that have any. -/
theorem flatten_filter_nonempty (owners : List (List ω)) :
    (owners.filter fun l => !l.isEmpty).flatten = owners.flatten := by
  induction owners with
  | nil => rfl
  | cons l ls ih => cases l <;> simp [ih]

/-- Taking the first work of one owner leaves the others. -/
theorem perm_flatten_set (w : ω) (rest : List ω) :
    ∀ (owners : List (List ω)) (i : Nat), owners[i]? = some (w :: rest) →
      owners.flatten.Perm (w :: (owners.set i rest).flatten)
  | [], i, h => by simp at h
  | l :: ls, 0, h => by simp_all
  | l :: ls, i + 1, h => by
    simp only [List.getElem?_cons_succ] at h
    simp only [List.flatten_cons, List.set_cons_succ]
    exact ((perm_flatten_set w rest ls i h).append_left l).trans List.perm_middle

/-- An interleaving runs every work once, those of one owner in their order. -/
theorem interleave_runs_all :
    ∀ (fuel : Nat) (owners : List (List ω)) (s : State), owners.flatten.length ≤ fuel →
      ∃ ws : List ω, ws.Perm owners.flatten ∧ (∀ l ∈ owners, l.Sublist ws)
        ∧ interleave run fuel owners s = ws.foldl (fun s w => run w (drawn s)) s
  | 0, owners, s, h => by
    have h0 : owners.flatten = [] := List.length_eq_zero_iff.1 (Nat.le_zero.1 h)
    refine ⟨[], by simp [h0], fun l hl => ?_, rfl⟩
    rw [List.flatten_eq_nil_iff.1 h0 l hl]
  | fuel + 1, owners, s, h => by
    have hf := flatten_filter_nonempty owners
    simp only [interleave]
    generalize hk : (owners.filter fun l => !l.isEmpty) = kept at *
    have hne : ∀ l ∈ kept, l ≠ [] := by
      intro l hl
      rw [← hk] at hl
      simpa using (List.mem_filter.1 hl).2
    have hall : ∀ l ∈ owners, l = [] ∨ l ∈ kept := by
      intro l hl
      rcases l with _ | ⟨w, r⟩
      · exact .inl rfl
      · exact .inr (hk ▸ List.mem_filter.2 ⟨hl, rfl⟩)
    split
    · rename_i hnone
      have hlen : kept.length = 0 := by
        rcases Nat.eq_zero_or_pos kept.length with h0 | hp
        · exact h0
        · rw [List.getElem?_eq_none_iff] at hnone
          exact absurd (Nat.mod_lt (Config.freeChoice s.freeCount) hp) (Nat.not_lt.2 hnone)
      have hnil : kept = [] := List.length_eq_zero_iff.1 hlen
      refine ⟨[], by simp [← hf, hnil], fun l hl => ?_, rfl⟩
      rcases hall l hl with rfl | h'
      · exact List.nil_sublist _
      · simp [hnil] at h'
    · rename_i l hl
      generalize Config.freeChoice s.freeCount % kept.length = i at hl
      split
      · exact absurd rfl (hne _ (List.mem_of_getElem? hl))
      · rename_i w rest
        have hp := perm_flatten_set w rest kept i hl
        rw [hf] at hp
        have hlen := hp.length_eq
        simp only [List.length_cons] at hlen
        obtain ⟨ws, hperm, hsub, heq⟩ :=
          interleave_runs_all fuel (kept.set i rest) (run w (drawn s)) (by omega)
        refine ⟨w :: ws, (hperm.cons w).trans hp.symm, fun l hl' => ?_, heq⟩
        rcases hall l hl' with rfl | hm
        · exact List.nil_sublist _
        · obtain ⟨j, hj⟩ := List.mem_iff_getElem?.1 hm
          by_cases hij : i = j
          · subst hij
            rw [hl] at hj
            cases hj
            exact (hsub rest (List.mem_of_getElem? (i := i)
              (by rw [List.getElem?_set_self (List.getElem?_eq_some_iff.1 hl).1]))).cons_cons w
          · exact (hsub l (List.mem_of_getElem? (i := j) (by rw [List.getElem?_set_ne hij, hj]))).cons w

end Sys2Proof.Laws
end

