-- ==== Sys2Proof/Laws/Keeps.lean ====
section
/-! SUPPORT. What a shared operation leaves alone, said once: `Keeps s t` says that `t` differs from `s` at most in the sale, the
messages sent, the own-frame queue, the pending notices, the fault capture record, the flags that rules derive, the marks of
windows and panels, and the escrow with its plan. Every evaluation that follows from a changed input keeps the rest. -/

namespace Sys2Proof.Laws

open Sys2Proof Sys2Proof.Machine

/-- What the evaluations that follow from a change leave alone. -/
structure Keeps (s t : State) : Prop where
  powered      : t.powered = s.powered
  line         : t.line = { s.line with ownQ := t.line.ownQ, ownDrops := t.line.ownDrops }
  loader       : t.loader = s.loader
  settings     : t.settings = s.settings
  clock        : t.clock = s.clock
  tt           : t.tt = s.tt
  board        : t.board = { s.board with windows := t.board.windows }
  panels       : t.panels = { s.panels with recs := t.panels.recs }
  fares        : t.fares = s.fares
  printerFault : t.printerFault = s.printerFault
  pay          : t.pay = { s.pay with
                   escrow := t.pay.escrow, plan := t.pay.plan, accept := t.pay.accept, armed := t.pay.armed
                   coinAvail := t.pay.coinAvail, cardAvail := t.pay.cardAvail, low10 := t.pay.low10
                   low20 := t.pay.low20, low50 := t.pay.low50, low100 := t.pay.low100, denyOld := t.pay.denyOld }
  ret          : t.ret = s.ret
  jrn          : t.jrn = { s.jrn with
                   reserved := t.jrn.reserved, l1 := t.jrn.l1, l2 := t.jrn.l2, noSerials := t.jrn.noSerials
                   serialsLow := t.jrn.serialsLow }
  cond         : t.cond = { s.cond with
                   salesOpen := t.cond.salesOpen, pending := t.cond.pending, faultRec := t.cond.faultRec }
  freeCount    : t.freeCount = s.freeCount
  pending      : t.pending = s.pending

/-- Nothing changed. -/
theorem Keeps.refl (s : State) : Keeps s s := by constructor <;> rfl

/-- Two operations one after the other. -/
theorem Keeps.trans {s t u : State} (h : Keeps s t) (k : Keeps t u) : Keeps s u := by
  constructor
  · rw [k.powered, h.powered]
  · rw [k.line, h.line]
  · rw [k.loader, h.loader]
  · rw [k.settings, h.settings]
  · rw [k.clock, h.clock]
  · rw [k.tt, h.tt]
  · rw [k.board, h.board]
  · rw [k.panels, h.panels]
  · rw [k.fares, h.fares]
  · rw [k.printerFault, h.printerFault]
  · rw [k.pay, h.pay]
  · rw [k.ret, h.ret]
  · rw [k.jrn, h.jrn]
  · rw [k.cond, h.cond]
  · rw [k.freeCount, h.freeCount]
  · rw [k.pending, h.pending]

/-- One of two. -/
theorem Keeps.ite {s t u : State} {c : Prop} [Decidable c] (h : Keeps s t) (k : Keeps s u) : Keeps s (if c then t else u) := by
  split
  · exact h
  · exact k

/-! ### The operations of Ops.lean -/

theorem keeps_send (m : OutMsg) (s : State) : Keeps s (send m s) := by constructor <;> rfl

theorem keeps_tellConsole (m : ConsoleMsg) (s : State) : Keeps s (tellConsole m s) := keeps_send _ s

theorem keeps_handOwn (k : OwnKind) (b : List Byte) (s : State) : Keeps s (handOwn k b s) := by
  unfold handOwn
  split <;> constructor <;> rfl

theorem keeps_answer (d : Dest) (k : Byte) (a : Answer) (r : List Byte) (s : State) : Keeps s (answer d k a r s) := by
  unfold answer
  split
  · exact keeps_handOwn _ _ s
  · exact .refl s

theorem keeps_report (why : ReportReason) (s : State) : Keeps s (report why s) := .ite (keeps_handOwn _ _ s) (.refl s)

theorem keeps_alertAfter (b s : State) : Keeps s (alertAfter b s) := .ite (keeps_report _ s) (.refl s)

theorem keeps_raiseNotice (n : Notice) (s : State) : Keeps s (raiseNotice n s) :=
  Keeps.trans (by constructor <;> rfl) (keeps_alertAfter s _)

theorem keeps_raiseIf (b : Bool) (n : Notice) (s : State) : Keeps s (raiseIf b n s) := .ite (keeps_raiseNotice n s) (.refl s)

theorem keeps_captureFault (f : TableFault) (s : State) : Keeps s (captureFault f s) := by
  unfold captureFault
  split
  · exact Keeps.trans (by constructor <;> rfl) (keeps_raiseNotice _ _)
  · constructor <;> rfl

/-- A list of operations, each of which keeps. -/
theorem keeps_foldl {β : Type} (f : State → β → State) (hf : ∀ s b, Keeps s (f s b)) :
    ∀ (l : List β) (s : State), Keeps s (l.foldl f s)
  | [], s => .refl s
  | b :: l, s => (hf s b).trans (keeps_foldl f hf l (f s b))

theorem keeps_captureFaults (fs : List TableFault) (s : State) : Keeps s (captureFaults fs s) :=
  keeps_foldl _ (fun s f => keeps_captureFault f s) fs s

theorem keeps_markWindows (f : Window → Bool) (s : State) : Keeps s (markWindows f s) := by constructor <;> rfl

theorem keeps_markNotices (s : State) : Keeps s (markNotices s) := keeps_markWindows _ s

theorem keeps_markTrains (s : State) : Keeps s (markTrains s) := keeps_markWindows _ s

theorem keeps_markLive (s : State) : Keeps s (markLive s) := keeps_markWindows _ s

theorem keeps_tellComposer (id day : Nat) (s : State) : Keeps s (tellComposer id day s) := keeps_markWindows _ s

theorem keeps_updPanel (p : Nat) (f : PanelRec → PanelRec) (s : State) : Keeps s (updPanel p f s) := by
  unfold updPanel
  split <;> constructor <;> rfl

theorem keeps_evalPanels (s : State) : Keeps s (evalPanels s) := by constructor <;> rfl

theorem keeps_evalPanel (p : Nat) (s : State) : Keeps s (evalPanel p s) := keeps_updPanel _ _ s

theorem keeps_evalWindowPanel (w : Window) (s : State) : Keeps s (evalWindowPanel w s) := .ite (keeps_evalPanel _ s) (.refl s)

theorem keeps_setPanelMode (p : Nat) (m : PanelMode) (s : State) : Keeps s (setPanelMode p m s) := by
  unfold setPanelMode
  split
  · exact .ite (.refl s) ((keeps_updPanel _ _ s).trans (keeps_evalPanel _ _))
  · exact .refl s

theorem keeps_setSalesOpen (s : State) : Keeps s (setSalesOpen s) :=
  .ite (.refl s) (Keeps.trans (by constructor <;> rfl) (keeps_markNotices _))

theorem keeps_evalFillWith (f : State → State) (hf : ∀ s, Keeps s (f s)) (s : State) : Keeps s (evalFillWith f s) := by
  have h : Keeps s { s with jrn := { s.jrn with l1 := l1Now s, l2 := l2Now s } } := by constructor <;> rfl
  have k := (h.trans (keeps_raiseIf (l1Now s && !s.jrn.l1) .journalL1 _)).trans
    (keeps_raiseIf (l2Now s && !s.jrn.l2) .journalL2 _)
  exact .ite k (k.trans (hf _))

theorem keeps_releaseReservation (s : State) : Keeps s (releaseReservation s) :=
  Keeps.trans (by constructor <;> rfl) (keeps_evalFillWith _ keeps_setSalesOpen _)

theorem keeps_acceptOff (s : State) : Keeps s (acceptOff s) := .ite (by constructor <;> rfl) (.refl s)

theorem keeps_disarm (s : State) : Keeps s (disarm s) := .ite (by constructor <;> rfl) (.refl s)

theorem keeps_returnEscrow (s : State) : Keeps s (returnEscrow s) := .ite (.refl s) (by constructor <;> rfl)

theorem keeps_closePayment (s : State) : Keeps s (closePayment s) :=
  (((keeps_returnEscrow s).trans (by constructor <;> rfl)).trans (keeps_acceptOff _)).trans (keeps_disarm _)

theorem keeps_saleToRest (s : State) : Keeps s (saleToRest s) := by constructor <;> rfl

theorem keeps_abandon (why : CloseReason) (s : State) : Keeps s (abandon why s) := by
  have h1 : Keeps s (if s.sale.state = .paying then closePayment s else s) := .ite (keeps_closePayment s) (.refl s)
  have h2 := h1.trans (.ite (c := (if s.sale.state = .paying then closePayment s else s).sale.reserved = true)
    (keeps_releaseReservation _) (.refl _))
  exact ((h2.trans (keeps_saleToRest _)).trans (keeps_tellConsole _ _)).trans (keeps_evalPanels _)

theorem keeps_evalSalesOpen (s : State) : Keeps s (evalSalesOpen s) :=
  .ite ((keeps_setSalesOpen s).trans (keeps_abandon _ _)) (keeps_setSalesOpen s)

theorem keeps_evalFill (s : State) : Keeps s (evalFill s) := keeps_evalFillWith _ keeps_evalSalesOpen s

theorem keeps_evalSerials (s : State) : Keeps s (evalSerials s) := by
  have h : Keeps s { s with jrn := { s.jrn with noSerials := noSerialsNow s, serialsLow := serialsLowNow s } } := by
    constructor <;> rfl
  have k := (h.trans (keeps_raiseIf (noSerialsNow s && !s.jrn.noSerials) .serialsOut _)).trans
    (keeps_raiseIf (serialsLowNow s && !s.jrn.serialsLow) .serialsLow _)
  exact .ite k (k.trans (keeps_evalSalesOpen _))

theorem keeps_evalAccept (s : State) : Keeps s (evalAccept s) := .ite (.refl s) (by constructor <;> rfl)

theorem keeps_evalArm (s : State) : Keeps s (evalArm s) :=
  .ite (.refl s) (.ite (by constructor <;> rfl) (by constructor <;> rfl))

theorem keeps_setAvail (s : State) : Keeps s (setAvail s) :=
  .ite (.refl s) (Keeps.trans (by constructor <;> rfl) (keeps_markNotices _))

theorem keeps_evalAvail (s : State) : Keeps s (evalAvail s) :=
  (((keeps_setAvail s).trans (keeps_evalSalesOpen _)).trans (keeps_evalAccept _)).trans (keeps_evalArm _)

theorem keeps_evalDenyOld (s : State) : Keeps s (evalDenyOld s) :=
  .ite (.refl s) ((Keeps.trans (by constructor <;> rfl) (keeps_raiseIf _ _ _)).trans (keeps_evalAvail _))

theorem keeps_evalTubes (s : State) : Keeps s (evalTubes s) := by
  have h : Keeps s (setLows s) := by constructor <;> rfl
  have h := h.trans (.ite (c := (setLows s).pay.low10 = s.pay.low10) (.refl _) (keeps_markNotices (setLows s)))
  exact (((h.trans (keeps_raiseIf _ _ _)).trans (keeps_raiseIf _ _ _)).trans (keeps_raiseIf _ _ _)).trans
    (keeps_raiseIf _ _ _)

/-! ### The sale and the printer flag -/

/-- R149: PRINTER_FAULT and its notice, and the ALERT it may cause, are all that its setting changes. -/
theorem keeps_setPrinterFault (s : State) : Keeps { s with printerFault := true } (setPrinterFault s) := by
  unfold setPrinterFault
  split
  · next h => cases s; cases h; exact .refl _
  · exact keeps_raiseNotice _ _

@[simp] theorem setPrinterFault_printerFault (s : State) : (setPrinterFault s).printerFault = true :=
  (keeps_setPrinterFault s).printerFault

theorem keeps_touch (s : State) : Keeps s (touch s) := .ite (by constructor <;> rfl) (.refl s)

theorem keeps_abandonOpen (why : CloseReason) (s : State) : Keeps s (abandonOpen why s) :=
  .ite (keeps_abandon why s) (.refl s)

theorem keeps_makeOffer (stop : Nat) (s : State) : Keeps s (makeOffer stop s) :=
  (keeps_captureFaults _ s).trans (Keeps.trans (by constructor <;> rfl) (keeps_tellConsole _ _))

theorem keeps_requestQuote (s : State) : Keeps s (requestQuote s) := by
  unfold requestQuote
  split
  · split
    · exact Keeps.trans (by constructor <;> rfl) (keeps_tellConsole _ _)
    · exact (keeps_captureFaults _ s).trans (Keeps.trans (by constructor <;> rfl) (keeps_tellConsole _ _))
  · exact .refl s

theorem keeps_keepRequest (s : State) : Keeps s (keepRequest s) := by
  unfold keepRequest
  split <;> constructor <;> rfl

theorem keeps_tellCeased (id day : Nat) (s : State) : Keeps s (tellCeased id day s) := by
  have hg : Keeps s (tellConsole (.serviceGone id) { s with sale := { s.sale with service := some .any, request := false } }) :=
    Keeps.trans (by constructor <;> rfl) (keeps_tellConsole _ _)
  have ht : Keeps s (if decide (s.sale.service = some (.train id day)) then
      requestQuote (tellConsole (.serviceGone id) { s with sale := { s.sale with service := some .any, request := false } }) else s) :=
    .ite (hg.trans (keeps_requestQuote _)) (.refl s)
  unfold tellCeased
  split
  · refine .ite ?_ ht
    split
    · exact ht.trans (keeps_makeOffer _ _)
    · exact ht
  · refine .ite ?_ ht
    split
    · exact ht.trans (keeps_makeOffer _ _)
    · exact ht
  · exact .ite hg (.refl s)
  · exact .refl s
  · exact .refl s
  · exact .refl s

theorem keeps_tellAllCeased (keys : List (Nat × Nat)) (s : State) : Keeps s (tellAllCeased keys s) :=
  keeps_foldl (fun (s : State) (k : Nat × Nat) => tellCeased k.1 k.2 s) (fun s k => keeps_tellCeased k.1 k.2 s) keys s

end Sys2Proof.Laws
end

