-- ==== Sys2Proof/Laws/Memory.lean ====
section
/-! SUPPORT. The laws of the two addressed buffers (the row store of R84, the journal ring of R173): a write keeps the canonical form,
a read of the written place gives what was written, and every other place reads as before. -/

namespace Sys2Proof.Laws

open Sys2Proof.Machine

variable {α : Type} [DecidableEq α] {dflt : α}

/-- The canonical form as a proposition. -/
theorem memory_wf_iff (m : List (Nat × α)) :
    Memory.wf dflt m = true ↔ m.Pairwise (fun p q => p.1 < q.1) ∧ ∀ p ∈ m, p.2 ≠ dflt := by
  simp [Memory.wf]

/-- The keys of a written buffer are the written place and keys it had. -/
theorem memory_write_keys (a : Nat) (v : α) (m : List (Nat × α)) :
    ∀ p ∈ Memory.write dflt a v m, (p.1 = a ∧ p.2 = v ∧ v ≠ dflt) ∨ p ∈ m := by
  induction m with
  | nil => intro p; simp only [Memory.write]; split <;> simp_all
  | cons q m ih =>
    intro p
    simp only [Memory.write]
    split_ifs with h1 h2 h3 h4 <;> simp only [List.mem_cons] <;> intro h
    · exact .inr h
    · rcases h with rfl | h
      · exact .inl ⟨rfl, rfl, h2⟩
      · exact .inr h
    · exact .inr (.inr h)
    · rcases h with rfl | h
      · exact .inl ⟨rfl, rfl, h4⟩
      · exact .inr (.inr h)
    · rcases h with rfl | h
      · exact .inr (.inl rfl)
      · rcases ih p h with h | h
        · exact .inl h
        · exact .inr (.inr h)

/-- A write keeps the canonical form. -/
theorem memory_write_wf (a : Nat) (v : α) (m : List (Nat × α)) (h : Memory.wf dflt m = true) :
    Memory.wf dflt (Memory.write dflt a v m) = true := by
  rw [memory_wf_iff] at h ⊢
  refine ⟨?_, fun p hp => ?_⟩
  · obtain ⟨hs, -⟩ := h
    induction m with
    | nil => simp only [Memory.write]; split <;> simp
    | cons q m ih =>
      have hq := List.pairwise_cons.1 hs
      simp only [Memory.write]
      split_ifs with h1 h2 h3 h4
      · exact hs
      · refine List.pairwise_cons.2 ⟨fun p hp => ?_, hs⟩
        rcases List.mem_cons.1 hp with rfl | hp
        · exact h1
        · exact lt_trans h1 (hq.1 p hp)
      · exact hq.2
      · exact List.pairwise_cons.2 ⟨fun p hp => h3 ▸ hq.1 p hp, hq.2⟩
      · refine List.pairwise_cons.2 ⟨fun p hp => ?_, ih hq.2⟩
        rcases memory_write_keys a v m p hp with ⟨rfl, -, -⟩ | hp
        · omega
        · exact hq.1 p hp
  · rcases memory_write_keys a v m p hp with ⟨-, rfl, hv⟩ | hp
    · exact hv
    · exact h.2 p hp

omit [DecidableEq α] in
/-- A place that is not listed reads as an unlisted one. -/
theorem memory_read_absent (a : Nat) (m : List (Nat × α)) (h : ∀ p ∈ m, p.1 ≠ a) : Memory.read dflt m a = dflt := by
  induction m with
  | nil => rfl
  | cons q m ih =>
    simp only [Memory.read]
    rw [if_neg (Ne.symm (h q (by simp)))]
    exact ih fun p hp => h p (by simp [hp])

/-- The written place reads as what was written. -/
theorem memory_read_write_same (a : Nat) (v : α) (m : List (Nat × α)) (h : Memory.wf dflt m = true) :
    Memory.read dflt (Memory.write dflt a v m) a = v := by
  rw [memory_wf_iff] at h
  obtain ⟨hs, -⟩ := h
  induction m with
  | nil => simp only [Memory.write]; split <;> simp_all [Memory.read]
  | cons q m ih =>
    have hq := List.pairwise_cons.1 hs
    simp only [Memory.write]
    split_ifs with h1 h2 h3 h4
    · rw [h2]
      exact memory_read_absent a (q :: m) fun p hp => by
        rcases List.mem_cons.1 hp with rfl | hp
        · omega
        · have := hq.1 p hp; omega
    · simp [Memory.read]
    · rw [h4]
      exact memory_read_absent a m fun p hp => by have := hq.1 p hp; omega
    · simp [Memory.read]
    · simp only [Memory.read]
      rw [if_neg h3]
      exact ih hq.2

/-- Every other place reads as before. -/
theorem memory_read_write_other (a b : Nat) (v : α) (m : List (Nat × α)) (hb : b ≠ a) :
    Memory.read dflt (Memory.write dflt a v m) b = Memory.read dflt m b := by
  induction m with
  | nil => simp only [Memory.write]; split <;> simp [Memory.read, hb]
  | cons q m ih =>
    simp only [Memory.write]
    split_ifs with h1 h2 h3 h4
    · rfl
    · simp [Memory.read, hb]
    · simp [Memory.read, ← h3, hb]
    · simp [Memory.read, ← h3, hb]
    · simp only [Memory.read, ih]

end Sys2Proof.Laws
end

