-- ==== Sys2Proof/Tests/Slice0.lean ====
section
/-! SUPPORT. The model's own tests: what `WellFormed` refuses, one or two steps of the worked examples of the spec, and for each
statement with hypotheses a state that meets them. Expected values are the spec's, or worked by hand from its tables. -/

open Sys2Proof Sys2Proof.Machine

namespace Sys2Proof.Tests

-- One theorem at a time: some sixty kernel evaluations that wait for each other at once hold a thread, with its stack, each.
set_option Elab.async false

/-! ### The states the tests stand on -/

/-- The state after a command; the same state where there is none. -/
def after (c : Instr) (s : State) : State :=
  match exec c s with
  | .next t => t
  | _ => s

/-- Both receivers have seen their idle line. -/
def ready : State := { State.reset with line := { State.reset.line with upReady := true, downReady := true } }

/-- A ready halt at the end of its chain. -/
def endHalt : State := { ready with line := { ready.line with straps := { Straps.atReset with endOfChain := true } } }

/-- A ready halt whose link is up. -/
def linked : State := { ready with line := { ready.line with linkLost := false, linkTimer := some 0 } }

/-- A frame of Table 12-1. -/
def frame (address kind : Byte) (body : List Byte) : List Byte :=
  withCheck ([address, kind, BitVec.ofNat 8 body.length] ++ body)

/-- Table 7-4: group 1 of the worked case. -/
def groupOne : Tariff :=
  { boarding := 120, rate1 := 4200, taper := 150, rate2 := 3100, cap := 1500, offPeak := 80, conc := 66, barred := true
    ret := 180 }

/-- A table with the home stop and a stop 23.7 km away in the group of Table 7-4. -/
def priced : FareTable :=
  { version := 7, home := 0, step := 10, childMin := 100, groups := [groupOne], workBands := [(120, 210)], restBands := []
    stops := [⟨[72], [72, 72, 72], 0, none⟩, ⟨[84], [84, 84, 84], 237, some 0⟩] }

/-- A halt that sells tickets: clock, fares, serials, coins and cards. -/
def selling : State :=
  { linked with
    clock := { State.reset.clock with valid := true, day := 400, weekday := 1, minute := 600, highMark := some 600 }
    fares := some priced
    pay := { State.reset.pay with
      coinReady := true, cardReady := true, coinAvail := true, cardAvail := true, denyAge := 0, denyOld := false
      low10 := false, low20 := false, low50 := false, low100 := false }
    ret := { State.reset.ret with current := ⟨1000, 100⟩, lastSerial := 999, tubes := ⟨9, 9, 9, 9⟩ }
    jrn := { State.reset.jrn with noSerials := false, serialsLow := false }
    cond := { State.reset.cond with ctrl := State.reset.cond.ctrl ||| 1, salesOpen := true } }

/-- Table 7-5: the quote of the worked case. -/
def quoted : Quote :=
  { adult := some 1480, child := some 740, conc := some 990, total := 3700, band := .offPeak, step := 10, version := 7
    destName := [84], destCode := [84, 84, 84], homeName := [72], homeCode := [72, 72, 72] }

/-- A halt with a sale of the worked case in a state. -/
def saleIn (st : SaleState) : State :=
  { selling with
    sale := { Sale.atRest with
      state := st, dest := some 1, product := some .ret, party := some ⟨2, 1, 0⟩, quote := some quoted
      inactivity := some 0, print := some 0, payout := some 0 } }

/-- A halt whose sale of a total is being paid, with coins in escrow. -/
def paying (total : Nat) (escrow : List Nat) : State :=
  { saleIn .paying with
    sale := { (saleIn .paying).sale with
      quote := some { quoted with total := total }, paid := escrow.sum, reserved := true, print := none, payout := none }
    jrn := { selling.jrn with reserved := true }
    pay := { selling.pay with escrow := escrow, accept := true, armed := decide (escrow = []) } }

/-- An open record of the worked case. -/
def openOne (m : Medium) : SaleRec :=
  { seq := 1, kind := .opened, printed := false, recovered := false, day := 400, minute := 600, serial := 1000, dest := 1
    service := .any, product := .ret, band := .offPeak, party := ⟨2, 1, 0⟩, adult := 1480, child := 740, conc := 990
    amount := 3700, medium := m, token := 5, changeGiven := 0, changeOwed := 0, version := 7, reason := .none }

/-- A state with that record open in the ring. -/
def withOpen (m : Medium) (s : State) : State :=
  { s with ret := { s.ret with nextSeq := 2, ring := [(0, some (.ticket (openOne m)))] } }

/-- A sale whose ticket is being printed. -/
def issuing (m : Medium) : State :=
  withOpen m { saleIn .issuing with sale := { (saleIn .issuing).sale with medium := some m, serial := some 1000 } }

/-- A state with a day close that waits for the open record. -/
def pendingDay (s : State) : State := { s with ret := { s.ret with pendingClose := some ⟨.zero, 400, 1439⟩ } }

/-- A sale whose change of 30 cents is being paid out. -/
def settling : State :=
  let s := withOpen .coin (saleIn .settling)
  { s with
    sale := { s.sale with medium := some .coin, serial := some 1000, planned := 30 }
    pay := { s.pay with outstanding := some ⟨1, 1, 0, 0⟩ } }

/-- A closed record. -/
def closedRec (q : Nat) : JRecord := .dayClose q ⟨.zero, 400, 1439⟩

/-- A halt with stored records 1 to 3. -/
def storing : State :=
  { linked with
    ret := { State.reset.ret with nextSeq := 4, ring := [(0, some (closedRec 1)), (1, some (closedRec 2)), (2, some (closedRec 3))] } }

/-- A service of the timetable, stopping on request. -/
def serviceTen : Service :=
  { id := 10, dir := .up, platform := 1, arrival := none, dep := 605, days := 127, holiday := true, request := true
    sellable := true, calls := [(1, 5)] }

/-- Its entry of day 400. -/
def entryTen : RunEntry :=
  { svc := serviceTen, day := 400, state := .planned, delay := 0, platform := 1, stopOrdered := false, noteAge := 0, last := none }

/-- A halt whose running table holds that entry. -/
def trains : State :=
  { selling with tt := { selling.tt with running := some ⟨5, 300, 410, [serviceTen]⟩, entries := [entryTen] } }

/-- A LIVE window of one row on panel row 0 of panel 1, over store row 4. -/
def windowOf (n : Nat) (kind : WinKind) : Window :=
  { number := n, panel := 1, first := 0, base := 4, length := 1, reverse := false, live := some kind, platforms := 15, dirs := 3
    inclCanc := false, callingRows := false, moreLine := false, shown := true, marked := true, cands := [] }

/-- A halt with that window and panel 1 present with two rows. -/
def boarded (kind : WinKind) : State :=
  { selling with
    board := { selling.board with windows := [windowOf 0 kind] }
    panels := { selling.panels with
      recs := { PanelRec.coldStart with present := true, marks := [false, false] } :: List.replicate 5 PanelRec.coldStart } }

/-- A halt with that entry, a stop request lodged for it, and a departures window that lists it. -/
def requested : State :=
  { trains with
    tt := { trains.tt with stopReqs := [⟨10, 400, .lodged, 0, .button⟩] }
    cond := { trains.cond with reportTimer := some 0 }
    board := { trains.board with windows := [{ windowOf 0 .departures with cands := [(10, 400)] }] } }

theorem requested_safe : TimetableSafe requested := by
  refine ⟨by decide, by decide, by decide, by decide +kernel, by decide, by decide, ?_, by decide, by decide, by decide, by decide, by decide⟩
  rintro b (h | h)
  · cases h
    decide
  · cases h

/-- Panel 1 as a record. -/
def panelOne (silent : Bool) (miss : Nat) : PanelRec :=
  { PanelRec.coldStart with present := true, marks := [true, false], silent := silent, miss := miss, pingTimer := if silent then some 3 else none }

/-- A halt with that panel and a message to it in flight, or none. -/
def onBus (r : PanelRec) (m : Option BusMsg) : State :=
  { selling with panels := ⟨r :: List.replicate 5 PanelRec.coldStart, 6, m.map fun x => (1, x)⟩ }

/-! ### What `WellFormed` refuses -/

theorem test_wellformed_body : WellFormed (.flags .own (List.replicate 201 0)) = false := by decide +kernel
theorem test_wellformed_panel : WellFormed (.pingTimerExpiry 0) = false ∧ WellFormed (.pingTimerExpiry 7) = false := by decide
theorem test_wellformed_destination : WellFormed (.destination 256) = false := by decide
theorem test_wellformed_service : WellFormed (.service 0) = false ∧ WellFormed (.service 65536) = false := by decide
theorem test_wellformed_stop : WellFormed (.stopRequest 0) = false ∧ WellFormed (.stopRequest 65536) = false := by decide
theorem test_wellformed_party :
    WellFormed (.party 16 0 0) = false ∧ WellFormed (.party 0 16 0) = false ∧ WellFormed (.party 0 0 16) = false := by decide
theorem test_wellformed_confirm : WellFormed (.confirm 100000) = false := by decide
theorem test_wellformed_offer : WellFormed (.offer 65536) = false := by decide
theorem test_wellformed_token : WellFormed (.token (2 ^ 64)) = false := by decide
theorem test_wellformed_payout :
    WellFormed (.payoutDone 256 0 0 0) = false ∧ WellFormed (.payoutDone 0 0 0 256) = false := by decide
theorem test_wellformed_admits :
    WellFormed (.flags .own (List.replicate 200 0)) = true ∧ WellFormed (.service 65535) = true ∧ WellFormed (.party 15 15 15) = true := by
  decide +kernel

/-! ### The spec's tables and worked examples -/

/-- R204: the check of the nine digits of "123456789" is 29B1h. -/
theorem test_crc_check_value :
    crc16 [0x31, 0x32, 0x33, 0x34, 0x35, 0x36, 0x37, 0x38, 0x39] = 0x29B1#16 := by decide +kernel

/-- Table 0-2. -/
theorem test_local_time :
    [0, 600, 1259, 1260, 1439, 1679].map localTime = [(3, 0), (13, 0), (23, 59), (0, 0), (2, 59), (6, 59)] := by decide

/-- Table 1-3, the last four rows: T5, A1, T6, P1. -/
theorem test_merge_under_load :
    let s := { ready with line := { ready.line with
      inboundQ := [[5], [6]], ownQ := [⟨.answer, [1]⟩, ⟨.haltReport, [2]⟩], streak := 3 } }
    let gone (s : State) : State := { s with line := { s.line with upTx := .idle } }
    let t5 := after .inboundMerge s
    let a1 := after .inboundMerge (gone t5)
    let t6 := after .inboundMerge (gone a1)
    let p1 := after .inboundMerge (gone t6)
    [t5, a1, t6, p1].map (fun t => (t.line.upTx, t.line.streak)) =
      [(.sending (.transit [5]), 4), (.sending (.own ⟨.answer, [1]⟩), 0), (.sending (.transit [6]), 1),
        (.sending (.own ⟨.haltReport, [2]⟩), 0)] := by decide +kernel

/-- Table 2-9: the six settings of the journal thresholds. -/
theorem test_journal_thresholds :
    let send (id v : Nat) (s : State) : State := after (.setting .own (BitVec.ofNat 8 id :: beBytes 2 v)) s
    let s1 := send 20 1000 ready
    let s2 := send 19 800 s1
    let s3 := send 20 1000 s2
    let s4 := send 20 5000 s3
    let s5 := send 19 3000 s4
    let s6 := send 20 1 s5
    [s1, s2, s3, s4, s5, s6].map (fun s => (s.settings.journalL1, s.settings.journalL2)) =
      [(1024, 1536), (800, 1536), (800, 1000), (800, 2040), (2039, 2040), (2039, 2040)] := by decide +kernel

/-- Table 3-1: the second frame (a jump back) and the third (a lower day). -/
theorem test_clock_jump_back :
    let s := { ready with clock := { ready.clock with
      valid := true, day := 310, weekday := 2, minute := 603, second := 5, highMark := some 603 } }
    let day := beBytes 2 310
    let t := after (.clockSet .own (day ++ [2] ++ beBytes 2 603 ++ [7])) s
    let u := after (.clockSet .own (beBytes 2 309 ++ [1] ++ beBytes 2 700 ++ [0])) s
    t.clock.second = 7 ∧ t.clock.minute = 603 ∧ u.clock = s.clock := by decide +kernel

/-- Tables 7-4 and 7-5: the worked case, off peak and in the peak. -/
theorem test_fares_worked_case :
    faresFor priced groupOne 237 .offPeak .ret = ⟨1480, 740, some 990⟩
      ∧ totalFare ⟨2, 1, 0⟩ (faresFor priced groupOne 237 .offPeak .ret) = 3700
      ∧ totalFare ⟨2, 1, 0⟩ (faresFor priced groupOne 237 .peak .ret) = 4600
      ∧ (faresFor priced groupOne 237 .peak .ret).conc = none := by decide +kernel

/-- Table 7-6, the first three rows. -/
theorem test_fare_stages_at_their_limits :
    bandedAdult groupOne 10 .peak 75 = 80 ∧ childSingle 10 100 80 = 80
      ∧ concSingle { groupOne with conc := 50, barred := false } 10 .peak 80 = some 40
      ∧ cappedAdult groupOne (bandedAdult groupOne 10 .peak 2037) = 1500 ∧ childSingle 10 100 1500 = 750
      ∧ bandedAdult { groupOne with offPeak := 70 } 10 .offPeak 2037 = 1430 ∧ childSingle 10 100 1430 = 710
      ∧ concSingle { groupOne with barred := false } 10 .offPeak 1430 = some 950 := by decide +kernel

/-- Table 9-3: the five coins against a total of 140. -/
theorem test_coins_against_a_thin_tube :
    let s := { paying 140 [] with ret := { selling.ret with tubes := ⟨0, 3, 1, 4⟩ } }
    let s1 := after (.offer 200) s
    let s2 := after (.offer 100) s1
    let s3 := after (.offer 50) s2
    let s4 := after (.offer 20) s3
    let s5 := after (.offer 20) s4
    [s1, s2, s3, s4, s5].map (fun t => t.pay.escrow) = [[], [100], [100], [100, 20], [100, 20, 20]]
      ∧ s5.sale.state = .issuing := by decide +kernel

/-- Table 9-5: the four cards. -/
theorem test_four_cards :
    let s (total : Nat) : State :=
      { paying total [] with pay := { (paying total []).pay with deny := [7731], tally := [⟨4410, 4800, 3, 512⟩] } }
    let answered (token total : Nat) : Bool := ((after (.token token) (s total)).out.any fun m => decide (m = .card (.result none)))
    [answered 4410 1500, answered 4410 1200, answered 7731 860, answered 5002 3100] = [false, true, false, false] := by
  decide +kernel

/-- Table 10-3, the SERIAL BLOCK frames of the first five rows. -/
theorem test_serial_blocks :
    let s := { ready with ret := { ready.ret with current := ⟨71044, 2⟩, lastSerial := 71043 } }
    let send (first count : Nat) (s : State) : State := after (.serialBlock .own (beBytes 4 first ++ beBytes 4 count)) s
    let s1 := send 71000 500 s
    let s2 := send 71045 100 s1
    let s3 := send 80001 1000 s2
    let s4 := send 90001 1000 s3
    [s1, s2, s3, s4].map (fun t => t.ret.standby) = [⟨0, 0⟩, ⟨0, 0⟩, ⟨80001, 1000⟩, ⟨80001, 1000⟩] := by decide +kernel

/-- Table 10-4, cut to three records: built, acknowledged in part, returned at the expiry. -/
theorem test_upload :
    let s1 := after .journalBuild storing
    let s2 := after (.journalAck .own (beBytes 4 2)) s1
    let s3 := after .ackTimerExpiry s2
    [s1, s2, s3].map (fun t => (t.ret.ackPoint, t.jrn.sendPoint, t.jrn.highPoint)) = [(1, 4, 4), (3, 4, 4), (3, 3, 4)] := by
  decide +kernel

/-- Table 11-4: an alert for TUBE_LOW only once its mask is cleared. -/
theorem test_notice_mask_alert :
    let s := { linked with cond := { linked.cond with pending := 0x0080 } }
    let t := after (.noticeMask .own [2, 0x00, 0x80]) s
    let u := after (.noticeMask .own [1, 0x00, 0x80]) s
    t.line.ownQ.map (·.kind) = [.haltReport] ∧ u.line.ownQ = [] ∧ t.cond.pending = 0x0080 := by decide +kernel

/-- Table 6-2: the third expiry makes a panel silent. -/
theorem test_third_miss :
    let t := after .ackExpiry (onBus (panelOne false 2) (some (.row 1)))
    t.panels.recs.head? = some { panelOne false 2 with marks := [true, true], miss := 3, silent := true, pingTimer := some 0 } := by
  decide +kernel

/-- R103: the CLOCK window at minute 600 on a Tuesday begins "13:00 TUE". -/
theorem test_clock_window :
    ((storeRow (after .composition (boarded .clock)) 4).map Cell.code).take 6 = [49, 51, 58, 48, 48, 32] := by decide +kernel

/-- R141: a CANCEL of a sale in QUOTED. -/
theorem test_cancel : (after .cancel (saleIn .quoted)).sale = Sale.atRest := by decide +kernel

/-- R136: the third choice brings the quote of Table 7-5. -/
theorem test_quote : (after (.party 2 1 0) (saleIn .selecting)).sale.quote = some quoted := by decide +kernel

/-- R34: a SETTING at halt 0 is taken and not answered; at this halt it is answered. -/
theorem test_broadcast_setting :
    (after (.setting .all [1, 0, 9]) ready).settings.linkSilence = 9 ∧ (after (.setting .all [1, 0, 9]) ready).line.ownQ = []
      ∧ (after (.setting .own [1, 0, 31]) ready).settings.linkSilence = 30
      ∧ (after (.setting .own [1, 0, 31]) ready).line.ownQ.length = 1 := by decide +kernel

/-- Tables 5-5 and 5-6: the far row and two departure rows of a REVERSE window. -/
theorem test_reverse_departures_window :
    let sv (id pl dep dest : Nat) (rq : Bool) : Service :=
      { serviceTen with id := id, platform := pl, dep := dep, request := rq, calls := [(dest, 5)] }
    let en (id pl dep dest : Nat) (rq : Bool) (st : RunState) (d : Int) : RunEntry :=
      { entryTen with svc := sv id pl dep dest rq, platform := pl, state := st, delay := d }
    let stop (n : List Nat) : Stop := ⟨n, [65, 65, 65], 10, some 0⟩
    let s := { selling with
      settings := { selling.settings with cancelDisplay := 15 }
      fares := some { priced with stops := [stop [72], stop (text "Tregarth"), stop (text "Kilbarry"), stop (text "Dunmere")] }
      tt := { selling.tt with
        running := some ⟨5, 300, 410, []⟩
        entries := [en 1207 1 590 1 false .cancelled 0, en 1203 2 600 3 true .running 7, en 1301 1 605 2 false .planned 0,
          en 1305 2 620 1 false .stale 3, en 1209 1 640 2 false .planned 0, en 1311 2 700 1 false .planned 0] }
      board := { selling.board with windows := [{ windowOf 3 .departures with
        panel := 2, base := 40, length := 4, reverse := true, inclCanc := true, moreLine := true }] } }
    let t := after .composition s
    (storeRow t 40).take 7 = (text "+3 more").map (fun c => ⟨c, .normal⟩)
      ∧ (storeRow t 41).drop 31 = (text "Exp 13:07").map (fun c => ⟨c, .normal⟩)
      ∧ (storeRow t 43).drop 31 = (text "Cancelled").map (fun c => ⟨c, .inverse⟩) := by decide +kernel

/-- Table 1-5: the line rates. -/
theorem test_line_rates :
    (List.finRange 8).map (fun v => (Line.coldStart { Straps.atReset with lineRate := v }).bitRate) =
      [1200, 2400, 4800, 9600, 19200, 38400, 9600, 9600] := by decide

/-- A clock that runs at second 59 of a minute of day 400, or at the last minute. -/
def running (minute : Nat) : State :=
  { ready with clock := { ready.clock with
      valid := true, day := 400, weekday := 6, minute := minute, second := 59, highMark := some minute } }

/-- A CLOCK SET with two ticks left before it takes second 7. -/
def moving : State := { running 600 with clock := { (running 600).clock with move := some ⟨2, 7, .own⟩ } }

/-- R46: behind a CLOCK SET that took the second afresh, here second 0, no tick of ordinary running falls. -/
theorem test_no_tick_behind_clock_set :
    let t := after (.clockSet .own (beBytes 2 400 ++ [6] ++ beBytes 2 600 ++ [0])) (running 600)
    t.clock.second = 0 ∧ t.clock.minute = 600 ∧ after .minuteTick t = t := by decide +kernel

/-- R16, R41, R44: a second CLOCK SET waits, one with a bad length or field too, and a line restart does not stop the first. The refusal
is given when its turn comes. -/
theorem test_clock_set_in_progress :
    let t := after (.clockSet .own (beBytes 2 400 ++ [6] ++ beBytes 2 605 ++ [0])) moving
    let u := after (.clockSet .own (beBytes 2 400 ++ [7] ++ beBytes 2 605 ++ [0])) (after (.clockSet .own [1]) t)
    t.clock = { moving.clock with waiting := [(.own, some ⟨400, 6, 605, 0⟩)] } ∧ t.line.ownQ = []
      ∧ (after (.restart .own []) t).clock = t.clock
      ∧ u.clock.waiting = [(.own, some ⟨400, 6, 605, 0⟩), (.own, none), (.own, none)] ∧ u.line.ownQ = []
      ∧ (takeWaiting [(.own, none)] (running 600)).line.ownQ.map (fun f => (f.chars.drop 3).take 3) = [[5, 7, 1]] := by decide +kernel

/-- R54, R107: with QUIET set and no wake reason, the mode already held leaves a lit panel lit. -/
theorem test_mode_already_held :
    let s := onBus { panelOne false 0 with modePending := false } none
    let s := { s with cond := { s.cond with ctrl := s.cond.ctrl ||| 0x20 } }
    after (.panelMode .own [1, 2]) s = s ∧ (panelRec (after (.panelMode .own [1, 1]) s) 1).map (·.eff) = some .off := by decide +kernel

/-- R91, R108: a WINDOW HIDE of a CLOCK window evaluates no panel, one of a DEPARTURES window its own. -/
theorem test_hide_evaluates_train_windows :
    let quiet (k : WinKind) : State := { boarded k with cond := { (boarded k).cond with ctrl := (boarded k).cond.ctrl ||| 0x20 } }
    let effOf (k : WinKind) : Option PanelMode := (panelRec (hideWindow (windowOf 0 k) (quiet k)) 1).map (·.eff)
    effOf .clock = some .on ∧ effOf .departures = some .off := by decide +kernel

/-- R151: a train that is gone when its ticket is printed is NOT_REQUESTABLE, and one without request stop lodges nothing. -/
theorem test_train_gone_while_printing :
    let s (request : Bool) : State :=
      { issuing .card with sale := { (issuing .card).sale with service := some (.train 10 400), request := request } }
    (after .done (s true)).out.getLast? = some (.console (.issued 1000 0 .notRequestable none))
      ∧ (after .done (s false)).out.getLast? = some (.console (.issued 1000 0 .none none)) := by decide +kernel

/-! ### A state and operands that meet the hypotheses of each statement -/

/-- A part without power. -/
def off : State := { State.reset with powered := false }

/-- A tick to minute 615, with which the lapse window of service 10 ends; its request is LODGED, and a sale has chosen it. -/
def lapsing (st : SaleState) : State :=
  { trains with
    clock := { trains.clock with second := 59, minute := 614, highMark := some 614 }
    tt := { trains.tt with stopReqs := [⟨10, 400, .lodged, 600, .button⟩] }
    cond := { trains.cond with reportTimer := some 0 }
    sale := { (saleIn st).sale with service := some (.train 10 400), request := true } }

theorem test_witness_EveryCommandCompletes : off.powered = false ∧ Instr.wake ≠ .standbySupplyFailed := by decide

/-- At second 58, and at second 59, where the minute ends too. -/
theorem test_witness_IdleSecond : ∀ sec, sec = 58 ∨ sec = 59 →
    let quiet := { running 600 with clock := { (running 600).clock with second := sec } }
    let due (n : Nat) : State := { quiet with line := { quiet.line with linkLost := false, linkTimer := some n } }
    quiet.powered = true ∧ quiet.pending = [] ∧ quiet.panels.recs.length = 6 ∧ quiet.clock.move = none ∧ quiet.clock.second ≤ 59
      ∧ (quiet.clock.valid = true ∧ quiet.clock.second = sec) ∧ (∀ c, ¬ DueNext quiet c) ∧ (∀ c, ¬ DueNext (due 178) c)
      ∧ DueNext (due 179) .linkSilenceExpiry ∧ (∀ c, DueNext (due 179) c → c = .linkSilenceExpiry)
      ∧ (due 179).line.linkTimer.isSome = !(due 179).line.linkLost := by
  have noPing : ∀ s : State, s.panels = Panels.coldStart → ∀ p r n, panelRec s p = some r → r.pingTimer = some n → False := by
    intro s hs p r n h hr
    have hm : r ∈ List.replicate 6 PanelRec.coldStart := by
      unfold panelRec at h
      split at h
      · cases h
      · rw [hs] at h; exact List.mem_of_getElem? h
    rw [List.eq_of_mem_replicate hm] at hr
    cases hr
  rintro sec hsec
  refine ⟨rfl, rfl, rfl, rfl, ?_, ⟨rfl, rfl⟩, ?_, ?_, .inl ⟨rfl, 179, rfl, Nat.le_refl 180⟩, ?_, rfl⟩
  · change sec ≤ 59; omega
  · rintro c (⟨-, n, h, -⟩ | ⟨-, n, h, -⟩ | ⟨-, n, h, -⟩ | ⟨-, n, h, -⟩ | ⟨-, n, h, -⟩ | ⟨k, a, -, h, -⟩ | ⟨p, r, n, -, h, hr, -⟩)
    iterate 5 cases h
    · cases k <;> cases h
    · exact noPing _ rfl p r n h hr
  · rintro c (⟨-, n, h, hn⟩ | ⟨-, n, h, -⟩ | ⟨-, n, h, -⟩ | ⟨-, n, h, -⟩ | ⟨-, n, h, -⟩ | ⟨k, a, -, h, -⟩ | ⟨p, r, n, -, h, hr, -⟩)
    · cases h; exact absurd (show 180 ≤ 179 from hn) (by decide)
    iterate 4 cases h
    · cases k <;> cases h
    · exact noPing _ rfl p r n h hr
  · rintro c (⟨rfl, -⟩ | ⟨-, n, h, -⟩ | ⟨-, n, h, -⟩ | ⟨-, n, h, -⟩ | ⟨-, n, h, -⟩ | ⟨k, a, -, h, -⟩ | ⟨p, r, n, -, h, hr, -⟩)
    · rfl
    iterate 4 cases h
    · cases k <;> cases h
    · exact (noPing _ rfl p r n h hr).elim

theorem test_witness_ColdStartOfFreshStore : { off with ret := { off.ret with marker := false } }.ret.marker = false := rfl

theorem test_witness_ColdStartRecoversOpenRecord :
    let s (printed : Bool) (p : Option DayClose) : State :=
      { off with ret := { off.ret with
          nextSeq := 2, ring := [(0, some (.ticket { openOne .coin with printed := printed }))], pendingClose := p } }
    (∀ printed, (s printed none).ret.marker = true
        ∧ openRec (s printed (some ⟨.zero, 400, 1439⟩)) = some { openOne .coin with printed := printed })
      ∧ off.ret.marker = true ∧ openRec off = none ∧ off.ret.pendingClose = none := by decide +kernel

theorem test_witness_SupplyFailures : ready.powered = true ∧ off.powered = false := by decide

theorem test_witness_StrapsHeld :
    (∃ t, exec (.coldStart Straps.atReset) off = .next t ∧ t.powered = true) ∧ ∃ t, exec .cancel ready = .next t ∧ t.powered = true :=
  ⟨⟨_, rfl, by decide +kernel⟩, ⟨_, rfl, by decide +kernel⟩⟩

theorem test_witness_ReceiversAwaitIdleLine :
    State.reset.powered = true ∧ State.reset.line.straps.endOfChain = false ∧ endHalt.line.straps.endOfChain = true
      ∧ State.reset.line.upReady = false ∧ State.reset.line.downReady = false := by decide

/-- Frames of the shortest length pass the check at their port and fail it at the other; a damaged check fails at both. -/
theorem test_witness_FrameCheck :
    ready.line.upReady = true ∧ ready.line.downReady = true ∧ ready.line.straps.endOfChain = false
      ∧ ValidFrame .outbound (frame 1 0x15 []) ∧ ¬ ValidFrame .inbound (frame 1 0x15 [])
      ∧ ValidFrame .inbound (frame 129 0x80 []) ∧ ¬ ValidFrame .outbound (frame 129 0x80 [])
      ∧ ¬ ValidFrame .outbound [1, 0x15, 0, 0, 0] := by
  unfold ValidFrame; decide +kernel

theorem test_witness_AddressFilter :
    ValidFrame .outbound (frame 0 0x04 [1, 0, 9]) ∧ ValidFrame .outbound (frame 1 0x15 []) ∧ ValidFrame .outbound (frame 31 0x15 [])
      ∧ ready.powered = true ∧ ready.line.upReady = true ∧ ready.line.straps.haltNumber.val = 1 := by
  unfold ValidFrame; decide +kernel

theorem test_witness_LinkLostAndRestored :
    (linked.line.linkTimer.isSome = true ∧ linked.line.linkLost = false) ∧ ready.line.linkTimer = none
      ∧ endHalt.line.linkLost = true ∧ endHalt.line.upReady = true ∧ endHalt.line.straps.endOfChain = true
      ∧ ValidFrame .outbound (frame 2 0x15 []) ∧ ((frame 2 0x15 []).getD 0 0).toNat % 32 ≠ 0
      ∧ ((frame 2 0x15 []).getD 0 0).toNat % 32 ≠ endHalt.line.straps.haltNumber.val := by
  unfold ValidFrame; decide +kernel

theorem test_witness_DownlineSide :
    ready.powered = true ∧ ready.line.downReady = true ∧ ready.line.straps.endOfChain = false
      ∧ ValidFrame .inbound (frame 130 0x80 [1]) := by
  unfold ValidFrame; decide +kernel

theorem test_witness_InboundMergeChoice :
    ready.powered = true ∧ (∀ f, ready.line.upTx ≠ .sending f)
      ∧ ∃ s : State, s.powered = true ∧ s.line.upTx = .sending (.transit [1]) :=
  ⟨rfl, (by intro f h; cases h), { ready with line := { ready.line with upTx := .sending (.transit [1]) } }, rfl, rfl⟩

theorem test_witness_UplineSendDone : ready.powered = true := rfl

theorem test_witness_OwnFramesPassTheCheck :
    (List.replicate 200 (0 : Byte)).length ≤ 200 ∧ ([] : List Byte).length ≤ 200 ∧ ready.panels.recs.length = 6
      ∧ (ready.line.straps.haltNumber ≠ 0 ∧ ready.line.ownQ.length < 6)
      ∧ { Straps.atReset with haltNumber := 0 }.haltNumber = 0 := by decide +kernel

/-- Table 12-7: the medium and the token of a card record; Table 12-9: tubes and the start of a stop request of a report. -/
theorem test_record_and_report_fields :
    ((recordBytes (.ticket (openOne .card))).drop 34).take 9 = [1, 0, 0, 0, 0, 0, 0, 0, 5]
      ∧ ((reportBody .stop requested).drop 50).take 4 = [9, 9, 9, 9]
      ∧ (reportBody .stop requested).drop 84 = [1, 0, 10, 1, 144, 0, 0, 0, 1] := by decide +kernel

/-- Table 11-5: the versions of the window and the cadence table in a report: 0 while the table is empty, after a load of no records too;
else the version of the load. -/
theorem test_report_version_of_empty_table :
    let versions (s : State) : List Byte := ((reportBody .poll s).drop 21).take 4
    let empty := (commitCadence 9 [] (commitWindows 7 [] (boarded .clock)).1).1
    empty.board.version = 7 ∧ empty.clock.cadenceVersion = 9 ∧ versions empty = [0, 0, 0, 0]
      ∧ versions { boarded .clock with
          board := { (boarded .clock).board with version := 7 }
          clock := { (boarded .clock).clock with cadence := [⟨127, .any, 0, 0, none, .sendReport⟩], cadenceVersion := 9 } } = [0, 7, 0, 9] := by
  decide +kernel

theorem test_witness_LineRestart :
    ready.powered = true ∧ openRec ready = none ∧ ready.ret.pendingClose = none ∧ (openRec (issuing .coin)).isSome = true
      ∧ (pendingDay (issuing .coin)).ret.pendingClose.isSome = true ∧ (pendingDay (issuing .coin)).powered = true
      ∧ (openRec (pendingDay (issuing .coin))).isSome = true := by decide +kernel

theorem test_witness_LoadBeginChecked :
    ready.powered = true ∧ kindOfByte 0 = none ∧ kindOfByte 6 = none ∧ kindOfByte 1 = some .timetable ∧ kindOfByte 5 = some .deny
      ∧ [0, 3, 5, 8, 10].all (fun n => decide (n ≠ 4 ∧ n ≠ 9 ∧ (List.replicate n (1 : Byte)).length = n)) = true := by
  decide

/-- A ready halt with an open load of a kind and version 5. -/
def loading (k : TableKind) (range : Option LoadRange) (segments : List (Option (List Byte))) : State :=
  setStaging k (some ⟨5, segments, range, 0⟩) ready

theorem test_witness_LoadSegmentStored : ready.powered = true ∧ kindOfByte 0 = none ∧ kindOfByte 5 = some .deny := by decide

theorem test_witness_LoadEndCompared :
    let a : Staging := ⟨5, [some [], none], none, 0⟩
    let b : Staging := ⟨5, [some [], some []], none, 0⟩
    kindOfByte 0 = none ∧ kindOfByte 5 = some .deny ∧ staging ready .deny = none
      ∧ staging (loading .deny none [some [], none]) .deny = some a ∧ a.version ≠ beNat [0, 6] ∧ a.version = beNat [0, 5]
      ∧ none ∈ a.segments ∧ staging (loading .deny none [some [], some []]) .deny = some b
      ∧ b.segments = [[], []].map some := by decide

theorem test_witness_LoadsCommitWhole :
    (∃ rs es, assemble readCadence [[]] = some rs ∧ validateCadence rs = .ok es)
      ∧ (∃ rs b, assemble readService [[]] = some rs
          ∧ validateTimetable (loading .timetable none [some []]) 5 ⟨.next, 1, 1⟩ rs = .ok b)
      ∧ (∃ ts, assemble readToken [[1, 0, 0, 0, 0, 0, 0, 0, 9]] = some ts ∧ ts.dedup.length ≤ 2048)
      ∧ assemble readFare [[9]] = none ∧ kindOfByte 4 = some .cadence ∧ staging (loading .cadence none [some []]) .cadence =
          some ⟨5, [some []], none, 0⟩ ∧ (5 : Nat) = beNat [0, 5] :=
  ⟨⟨_, _, rfl, rfl⟩, ⟨_, _, rfl, rfl⟩, ⟨[9], by decide +kernel, by decide +kernel⟩, by decide +kernel, by decide, rfl, by decide⟩

/-- A TODAY load for day 400, and WINDOWS loads: panel 1 with a CLOCK window on its row 0, and a panel number outside 1..6. -/
theorem test_witness_LoadsCommitWhole_today_and_windows :
    (∃ rs b, assemble readService [[]] = some rs ∧ validateTimetable trains 5 ⟨.today, 400, 400⟩ rs = .ok b)
      ∧ (∃ rs table, assemble readWindow [[1, 1, 1, 2, 2, 0, 1, 0, 0, 4, 1, 0, 1, 4, 15, 3, 0]] = some rs ∧ validateWindows rs = .ok table
          ∧ table.windows.map (·.number) = [0])
      ∧ (∃ rs why, assemble readWindow [[1, 7, 1, 2]] = some rs ∧ validateWindows rs = .error why) :=
  ⟨⟨_, _, rfl, rfl⟩, ⟨_, _, rfl, rfl, rfl⟩, ⟨_, _, rfl, rfl⟩⟩

/-- Each outcome of a WINDOWS load's checks: thirteen windows, a row count of 0, two windows on one panel row, and a load that passes. -/
theorem test_witness_LoadsCommitWhole_windows :
    let clock (n : Nat) (row : Byte) : List Byte := [2, BitVec.ofNat 8 n, 1, row, 0, 4, 1, 0, 0, 4, 15, 3, 0]
    let two (row : Nat) : List RawWindow :=
      [.panel 1 1 2, .window 0 1 0 4 1 0 0 4 15 3 0, .window 1 1 row 4 1 0 0 4 15 3 0]
    WindowsOverflow ((assemble readWindow [(List.range 13).flatMap fun n => clock n 0]).getD [])
      ∧ (assemble readWindow [[1, 1, 1, 0]] = some [.panel 1 1 0] ∧ ¬ WindowsOverflow [.panel 1 1 0] ∧ BadWindows [.panel 1 1 0])
      ∧ ∀ row, row < 2 →
          assemble readWindow [[1, 1, 1, 2] ++ clock 0 0 ++ clock 1 (BitVec.ofNat 8 row)] = some (two row)
          ∧ ¬ WindowsOverflow (two row) ∧ ¬ BadWindows (two row) ∧ (WindowsOverlap (two row) ↔ row = 0) := by
  refine ⟨by unfold WindowsOverflow; decide +kernel, ⟨by decide +kernel, by unfold WindowsOverflow; decide, .inl (by decide)⟩, ?_⟩
  intro row h
  interval_cases row <;>
    exact ⟨by decide +kernel, by unfold WindowsOverflow; decide, by simp [BadWindows, readYesNo], by simp [WindowsOverlap]⟩

/-- The commit of an empty TODAY bank takes the train of a sale away. -/
theorem test_witness_LoadsCommitWhole_service_gone :
    let s (st : SaleState) : State := setStaging .timetable (some ⟨5, [some []], some ⟨.today, 400, 400⟩, 0⟩) (lapsing st)
    (s .selecting).sale.service = some (.train 10 400)
      ∧ (s .selecting).tt.entries.any (fun e => decide (e.svc.id = 10 ∧ e.day = 400) && e.svc.sellable && liveState e.state) = true
      ∧ findEntry (after (.loadEnd .own [1, 0, 5]) (s .selecting)) 10 400 = none
      ∧ [SaleState.selecting, .paying, .issuing].map (fun st => (s st).sale.state) = [.selecting, .paying, .issuing] := by
  decide +kernel

/-- A record of each kind with its type byte and length, one cut short, and a reader that takes bytes at every record. -/
theorem test_witness_RecordsRead :
    (([1, 0, 10] : List Byte).getD 0 0).toNat = 1 ∧ ([1, 0, 10] : List Byte).length < 5 ∧ readFare [1, 0, 10] = none
      ∧ (∀ b r tail, readToken b = some (r, tail) → tail.length < b.length)
      ∧ assemble readToken [[], [1, 0, 0, 0, 0, 0, 0, 0, 9], [1, 0, 0, 0, 0, 0, 0, 1, 0]] = some [9, 256] := by
  refine ⟨by decide, by decide, by decide, ?_, by decide +kernel⟩
  intro b r tail h
  unfold readToken at h
  split at h
  · split at h
    · cases h; simp only [List.length_cons]; omega
    · cases h
  · cases h

/-- A cadence record: weekdays, and the operand of a FLAGS SET. -/
def cadenceRecord (weekdays : Byte) (operand : List Byte) : List Byte := [1, weekdays, 0, 0, 0, 0, 0, 255, 0, 1] ++ operand

/-- A CADENCE load of the greatest size, of one record more, and of a record with a field at its limit and past it. -/
theorem test_witness_LoadsCommitWhole_cadence :
    let raw (w : Byte) (o : List Byte) : RawCadence := ⟨w, 0, 0, 0, 255, 0, 1, o⟩
    assemble readCadence [cadenceRecord 127 [0, 0, 31, 255]] = some [raw 127 [0, 0, 31, 255]] ∧ ¬ BadCadence (raw 127 [0, 0, 31, 255])
      ∧ assemble readCadence [cadenceRecord 127 [0, 0, 32, 0]] = some [raw 127 [0, 0, 32, 0]] ∧ BadCadence (raw 127 [0, 0, 32, 0])
      ∧ BadCadence (raw 128 [0, 0, 31, 255])
      ∧ [32, 33].map (fun n => (assemble readCadence (List.replicate n (cadenceRecord 127 [0, 0, 31, 255]))).map List.length) =
          [some 32, some 33]
      ∧ assemble readCadence [[2]] = none := by
  refine ⟨by decide +kernel, ?_, by decide +kernel, ?_, ?_, by decide +kernel, by decide +kernel⟩ <;> (unfold BadCadence; decide +kernel)

/-- A TIMETABLE load: a service of a number of calls, its greatest sizes and one more, an identity twice, and the days of a TODAY load. -/
theorem test_witness_LoadsCommitWhole_timetable :
    let bytes (id n : Nat) : List Byte :=
      [1] ++ beBytes 2 id ++ [0, 4, 255, 255, 5, 159, 255, 3, BitVec.ofNat 8 n] ++ (List.replicate n [63, 255]).flatten
    let raw (id n : Nat) : RawService := ⟨id, 0, 4, 65535, 1439, 255, 3, List.replicate n (63, 255)⟩
    let load (count n : Nat) : List RawService := (List.range count).map fun i => raw (65534 - i) n
    (∀ k ∈ [(100, 12), (101, 12), (160, 0), (161, 0)], assemble readService ((List.range k.1).map fun i => bytes (65534 - i) k.2) =
        some (load k.1 k.2))
      ∧ (∀ r ∈ load 101 12, ¬ BadService r) ∧ (∀ r ∈ load 160 0, ¬ BadService r) ∧ ((load 160 0).map RawService.id).Nodup
      ∧ ((load 100 12).map fun x => x.calls.length).sum = 1200 ∧ 1200 < ((load 101 12).map fun x => x.calls.length).sum
      ∧ BadService (raw 65535 0) ∧ BadService (raw 0 0) ∧ BadService (raw 1 13)
      ∧ ¬ (([raw 7 0, raw 7 0] : List RawService).map RawService.id).Nodup
      ∧ (trains.clock.valid = true ∧ ¬ (trains.clock.day ≤ 399) ∧ ¬ (401 ≤ trains.clock.day) ∧ 400 ≤ trains.clock.day ∧ trains.clock.day ≤ 400)
      ∧ assemble readService [[2]] = none := by
  refine ⟨by decide +kernel, ?_, ?_, by decide +kernel, by decide +kernel, by decide +kernel, ?_, ?_, ?_, by decide +kernel,
    by decide +kernel, by decide +kernel⟩ <;> (unfold BadService; decide +kernel)

/-- The records of a FARES load with the four tariff groups and a home stop. -/
def fareRecords : List Byte :=
  let group (n : Byte) : List Byte :=
    [2, n] ++ beBytes 2 120 ++ beBytes 2 4200 ++ beBytes 2 150 ++ beBytes 2 3100 ++ beBytes 2 1500 ++ [80, 66, 1, 180]
  [1, 0, 10] ++ beBytes 2 100 ++ group 0 ++ group 1 ++ group 2 ++ group 3 ++ [4, 1, 72, 72, 72, 72, 0, 0, 255]

theorem test_witness_FaresCommit :
    let s := loading .fares none [some fareRecords]
    s.sale.state = .idle ∧ s.loader.fares = some ⟨5, [some fareRecords], none, 0⟩ ∧ (5 : Nat) = beNat [0, 5] ∧ s.powered = true
      ∧ s.cond.salesOpen = salesOpenNow s
      ∧ ((assemble readFare [fareRecords]).any fun rs => match validateFares 5 rs with | .ok _ => true | .error _ => false) = true := by
  decide +kernel

/-- FARES loads: the four groups and a home stop pass; 65 stops, a missing header and a home stop with a group do not. -/
theorem test_witness_LoadsCommitWhole_fares :
    let stop (g : Byte) : RawFare := .stop [72] [72, 72, 72] 5 g
    (∃ rs f, assemble readFare [fareRecords] = some rs ∧ validateFares 5 rs = .ok f)
      ∧ FaresOverflow (List.replicate 65 (stop 255)) ∧ ¬ FaresOverflow (List.replicate 64 (stop 255))
      ∧ assemble readFare (List.replicate 65 [4, 1, 72, 72, 72, 72, 0, 5, 255]) = some (List.replicate 65 (stop 255))
      ∧ assemble readFare [[]] = some [] ∧ ¬ FaresOverflow [] ∧ BadFares [] ∧ BadFares [.header 0 10 100, stop 3] := by
  refine ⟨⟨_, _, rfl, rfl⟩, ?_, ?_, by decide +kernel, by decide +kernel, ?_, .inl (by decide), .inr (.inl (by decide))⟩ <;>
    (unfold FaresOverflow; decide +kernel)

/-- A DENY load of 2049 tokens. -/
theorem test_witness_LoadsCommitWhole_deny :
    let ts := List.range 2049
    assemble readToken (ts.map fun n => 1 :: beBytes 8 n) = some ts ∧ 2048 < ts.dedup.length := by
  refine ⟨by decide +kernel, ?_⟩
  rw [List.nodup_range.dedup, List.length_range]
  decide

/-- A sale with its choices made, quoted again at a table that prices its stop and at one that has only the home stop. -/
theorem test_witness_FaresCommit_requote :
    let priced := fareRecords ++ [4, 1, 84, 84, 84, 84, 0, 237, 0]
    let s (st : SaleState) (r : List Byte) : State := setStaging .fares (some ⟨5, [some r], none, 0⟩) (saleIn st)
    let answer (r : List Byte) : Option QuoteAnswer := (assemble readFare [r]).bind fun rs =>
      match validateFares 5 rs with
      | .ok f => some (quoteFor { s .selecting r with fares := some f } ⟨1, .any, .ret, ⟨2, 1, 0⟩⟩)
      | .error _ => none
    (∀ st ∈ [SaleState.selecting, .quoted], (s st priced).sale.state = st ∧ (s st priced).cond.salesOpen = salesOpenNow (s st priced))
      ∧ (s .selecting priced).sale.dest = some 1 ∧ (s .selecting priced).sale.product = some .ret
      ∧ (s .selecting priced).sale.party = some ⟨2, 1, 0⟩
      ∧ ((answer priced).any fun a => match a with | .quote _ => true | _ => false) = true
      ∧ ((answer fareRecords).any fun a => match a with | .refused .fareFault (some _) => true | _ => false) = true := by
  decide +kernel

theorem test_witness_SettingTaken :
    settingRange 0 = none ∧ settingRange 21 = none ∧ settingRange 1 = some (1, 30) ∧ settingRange 20 = some (2, 2040)
      ∧ ready.settings.journalL2 ≤ max 1 (min 1536 2039) ∧ max 2 (min 1024 2040) ≤ ready.settings.journalL1
      ∧ settingValue ready.settings 19 ≠ max 1 (min 1535 2039) ∧ settingValue ready.settings 19 = max 1 (min 1024 2039)
      ∧ settingValue ready.settings 1 ≠ 2 ∧ linked.line.linkLost = false
      ∧ (∃ n, (some 120 : Timer) = some n ∧ 2 * 60 ≤ n) ∧ (∀ n, (some 119 : Timer) = some n → n < 2 * 60) := by
  refine ⟨by decide, by decide, by decide, by decide, by decide, by decide, by decide, by decide, by decide, rfl, ⟨120, rfl, by decide⟩, ?_⟩
  intro n h
  cases h
  decide

theorem test_witness_ClockSetTaken :
    (6 < (7 : Byte).toNat ∧ 1439 < beNat [5, 0xA0] ∧ 59 < (60 : Byte).toNat)
      ∧ ((6 : Byte).toNat ≤ 6 ∧ beNat [5, 0x9F] = 1439 ∧ (59 : Byte).toNat ≤ 59) ∧ ready.clock.valid = false
      ∧ (running 600).clock.valid = true ∧ beNat [1, 0x8F] < (running 600).clock.day ∧ (running 600).clock.day < beNat [1, 0x91]
      ∧ beNat [1, 0x90] = (running 600).clock.day ∧ beNat [2, 0x58] = (running 600).clock.minute
      ∧ (running 600).clock.minute < beNat [2, 0x59] ∧ beNat [2, 0x67] ≤ (running 600).clock.minute + 15
      ∧ (running 600).clock.minute + 15 < beNat [2, 0x68] ∧ beNat [2, 0x57] < (running 600).clock.minute
      ∧ (running 600).clock.jumped = false ∧ (running 600).clock.move = none ∧ (running 600).clock.waiting = []
      ∧ ([1] : List Byte).length ≠ 6 ∧ moving.clock.move.isSome = true
      ∧ moving.powered = true ∧ moving.clock.move = some ⟨2, 7, .own⟩ ∧ 1 ≤ 2 ∧ moving.pending = [] := by decide

/-- The last minute of day 400 of a halt with a train expected after midnight, an entry that ends, its request LODGED and the sale that has
chosen it, and two banks. -/
def lastMinute (st : SaleState) : State :=
  { lapsing st with
    clock := { trains.clock with second := 59, minute := 1439, highMark := some 1439 }
    tt := { trains.tt with
      running := some ⟨5, 300, 400, [serviceTen]⟩, standing := some ⟨6, 402, 410, []⟩
      entries := [entryTen, { entryTen with svc := { serviceTen with id := 11, dep := 1435 }, delay := 5 }]
      stopReqs := [⟨10, 400, .lodged, 600, .button⟩, ⟨11, 400, .ordered, 600, .button⟩] } }

/-- What the day end to day 401 takes from that state, and one to day 402, which holds nothing over and finds the standing bank. -/
theorem test_witness_TimetableDayEnded : ∀ st ∈ [SaleState.selecting, .quoted, .paying, .issuing, .settling],
    let s := lastMinute st
    (s.powered = true ∧ s.clock.move = none ∧ s.clock.waiting = [] ∧ s.clock.valid = true ∧ s.clock.second = 59 ∧ s.clock.minute = 1439)
      ∧ s.sale.state = st ∧ s.sale.service = some (.train 10 400) ∧ (beNat [1, 145] = 401 ∧ beNat [1, 146] = 402 ∧ s.clock.day < 401)
      ∧ s.tt.entries.map (fun e => (e.svc.id, liveState e.state, e.svc.sellable, expectedOf false e)) =
          [(10, true, true, 605), (11, true, true, 1440)]
      ∧ s.tt.stopReqs.find? (fun x => decide (x.id = 10 ∧ x.day = 400)) = some ⟨10, 400, .lodged, 600, .button⟩
      ∧ s.tt.standing.map (fun b => (decide (b.fromDay ≤ 401), decide (b.fromDay ≤ 402 ∧ 402 ≤ b.toDay))) = some (false, true)
      ∧ s.tt.running.map (fun b => decide (401 ≤ b.toDay)) = some false ∧ s.tt.expired = false ∧ trains.tt.standing = none
      ∧ (heldOver 400 { s with clock := { s.clock with day := 401 } }).map (·.svc.id) = [11]
      ∧ heldOver 400 { s with clock := { s.clock with day := 402 } } = [] := by decide +kernel

theorem test_witness_MinuteTick :
    ready.clock.valid = false ∧ ready.clock.move = none ∧ (running 0).powered = true ∧ (running 0).clock.valid = true
      ∧ (running 0).clock.second = 59 ∧ (running 0).clock.move = none ∧ (running 1438).clock.minute < 1439
      ∧ selling.clock.second ≠ 59 ∧ selling.clock.move = none ∧ (running 0).cond.reportTimer.isSome = hasLodged (running 0)
      ∧ (running 0).tt.stopReqs = [] ∧ (running 0).clock.cadence = [] := by decide

theorem test_witness_MinuteTick_lapse :
    let s := lapsing .selecting
    s.powered = true ∧ s.clock.move = none ∧ s.clock.valid = true ∧ s.clock.second = 59 ∧ s.clock.minute < 1439 ∧ s.clock.cadence = []
      ∧ s.tt.entries = [entryTen] ∧ entryTen.state ≠ .lapsed ∧ (entryAfterTick s false 615 entryTen).state = .lapsed
      ∧ (entryAfterTick s false 614 entryTen).state = .planned ∧ entryTen.svc.sellable = true
      ∧ s.tt.stopReqs.find? (fun x => decide (x.id = 10 ∧ x.day = 400)) = some ⟨10, 400, .lodged, 600, .button⟩
      ∧ s.sale.service = some (.train 10 400) ∧ denyOldNow { s with pay := { s.pay with denyAge := min (s.pay.denyAge + 1) 65535 } } = s.pay.denyOld
      ∧ [SaleState.selecting, .quoted, .paying, .issuing, .settling].map (fun st => (lapsing st).sale.state) =
          [.selecting, .quoted, .paying, .issuing, .settling] := by decide +kernel

/-- A tick that lapses nothing, on a halt with a LODGED request and a panel present. -/
theorem test_witness_MinuteTick_report_and_panels :
    let s := { lapsing .idle with
      clock := { (lapsing .idle).clock with minute := 600, highMark := some 600 }, panels := (boarded .departures).panels
      board := { (lapsing .idle).board with windows := [{ windowOf 0 .departures with cands := [(10, 400)] }, windowOf 3 .clock] } }
    s.cond.reportTimer = some 0 ∧ (s.tt.stopReqs.any fun q => decide (q.state = .lodged)) = true
      ∧ (entryAfterTick s false 601 entryTen).state ≠ .lapsed ∧ s.clock.second = 59 ∧ s.tt.holdover = []
      ∧ s.board.windows.Pairwise (fun a b => a.number < b.number)
      ∧ (s.panels.recs[0]?).map (fun r => (r.present, r.eff)) = some (true, .on) := by decide +kernel

theorem test_witness_DayEnd :
    let bank : Bank := ⟨5, 401, 401, []⟩
    let s := { running 1439 with tt := { ready.tt with standing := some bank } }
    s.powered = true ∧ s.clock.move = none ∧ s.clock.valid = true ∧ s.clock.second = 59 ∧ s.clock.minute = 1439 ∧ s.clock.day ≤ 65535
      ∧ s.clock.cadence = [] ∧ s.tt.standing = some bank ∧ bank.fromDay ≤ 401 ∧ 401 ≤ bank.toDay
      ∧ (running 1439).tt.standing = none ∧ (running 1439).tt.running = none := by decide

theorem test_witness_JournalAtDayEnd :
    (running 1439).powered = true ∧ (running 1439).clock.move = none ∧ (running 1439).clock.valid = true
      ∧ (running 1439).clock.second = 59 ∧ (running 1439).clock.minute = 1439 ∧ (running 1439).sale.state = .idle := by decide

theorem test_witness_CadenceRun :
    let entry (c : Option (Nat × Bool)) : CadenceEntry := ⟨127, .any, 0, 0, c, .flagsSet 1⟩
    let s := { running 600 with clock := { (running 600).clock with cadence := [entry none, entry (some (15, true)), entry (some (25, false))] } }
    s.powered = true ∧ s.clock.move = none ∧ s.clock.valid = true ∧ s.clock.second = 59 ∧ s.clock.minute < 1439
      ∧ s.board.windows.Pairwise (fun a b => a.number < b.number)
      ∧ (∀ e ∈ s.clock.cadence, ∀ n b, e.condition = some (n, b) → n < 16 ∨ n ∈ [16, 17, 18, 21, 22, 23, 25])
      ∧ (∃ h, s.clock.highMark = some h ∧ h < s.clock.minute + 1) ∧ ready.clock.highMark = none
      ∧ ∃ h, (running 600).clock.highMark = some h ∧ 600 ≤ h := by
  refine ⟨rfl, rfl, rfl, rfl, by decide, by decide, ?_, ⟨600, rfl, by decide⟩, rfl, ⟨600, rfl, by decide⟩⟩
  intro e he n b h
  simp at he
  rcases he with rfl | rfl | rfl <;> simp at h
  · omega
  · right; simp [← h.1]

/-- An entry that acts, on a halt with panel 1 and window 0: each action finds its panel or window, or does not. -/
theorem test_witness_CadenceRun_entry :
    let s := { boarded .departures with board := { (boarded .departures).board with panels := [⟨1, true, 2⟩] } }
    let hidden := { s with board := { s.board with windows := [{ windowOf 0 .departures with shown := false }] } }
    s.powered = true ∧ (127 : BitVec 7).getLsbD s.clock.weekday = true
      ∧ BitVec.ofNat 11 s.clock.minute &&& 0 = (0 : BitVec 11) &&& 0 ∧ s.cond.salesOpen = true ∧ (28 : Nat) ≤ 28
      ∧ (∃ x ∈ s.board.panels, x.panel = 1 ∧ x.present = true) ∧ ¬ (∃ x ∈ s.board.panels, x.panel = 2 ∧ x.present = true)
      ∧ s.board.windows.find? (fun w => decide (w.number = 0)) = some (windowOf 0 .departures)
      ∧ (windowOf 0 .departures).shown = true
      ∧ hidden.board.windows.find? (fun w => decide (w.number = 0)) = some { windowOf 0 .departures with shown := false }
      ∧ s.board.windows.find? (fun w => decide (w.number = 1)) = none
      ∧ (∀ h, ready.clock.highMark = some h → h < ready.clock.minute) := by
  refine ⟨rfl, by decide, by decide, rfl, by decide, ⟨_, List.mem_singleton.2 rfl, rfl, rfl⟩, ?_, by decide, rfl, by decide, by decide, ?_⟩
  · rintro ⟨x, hx, h, -⟩
    rw [List.mem_singleton.1 hx] at h
    cases h
  · intro h hh; cases hh

theorem test_witness_RunningNotes :
    let last : NoteContent := ⟨.delay, 5, 1, false⟩
    ready.clock.valid = false ∧ trains.clock.valid = true ∧ trains.clock.day = beNat [1, 144] ∧ (399 : Nat) = beNat [1, 143]
      ∧ (trains.tt.entries.find? fun x => decide (x.svc.id = beNat [0, 10])) = some entryTen
      ∧ (trains.tt.entries.find? fun x => decide (x.svc.id = beNat [0, 11])) = none
      ∧ entryTen.last ≠ some last ∧ { entryTen with last := some last }.last = some last
      ∧ (22 < (23 : Byte).toNat ∧ ([] : List Byte).length ≠ 9 * (1 : Byte).toNat)
      ∧ (1 ≤ (22 : Byte).toNat ∧ (22 : Byte).toNat ≤ 22 ∧ (List.replicate 198 (0 : Byte)).length = 9 * (22 : Byte).toNat)
      ∧ noteKindOfByte 0 = none ∧ noteKindOfByte 7 = none
      ∧ [1, 2, 3, 4, 5, 6].map noteKindOfByte =
          [some .delay, some .approach, some .departed, some .cancel, some .reinstate, some .platform] := by decide +kernel

/-- An entry held over from day 399, for notes of that day. -/
theorem test_witness_RunningNotes_holdover :
    let e : RunEntry := { entryTen with day := 399 }
    let s : State := { trains with tt := { trains.tt with holdover := [e] } }
    s.clock.valid = true ∧ beNat [1, 143] = s.clock.day - 1 ∧ s.clock.day ≠ 0 ∧ s.clock.day - 1 ≠ s.clock.day
      ∧ (s.tt.holdover.find? fun x => decide (x.svc.id = 10)) = some e
      ∧ noteTable s.clock.minute s.settings.lapseWindow true e .departed 0 = some (.departed, 0) := by decide +kernel

/-- Table 4-3: for every kind of note a state in which it is applied and one in which it is ignored, and a DELAY that brings a LAPSED
entry back at the last minute of its lapse window. -/
theorem test_witness_RunningNotes_table :
    let applied (st : RunState) (k : NoteKind) (delay : Int) : Option (RunState × Int) :=
      noteTable 624 10 false { entryTen with state := st, delay := 3 } k delay
    [.planned, .running, .stale, .arriving].map (fun st => applied st .delay 9) =
        [some (.running, 9), some (.running, 9), some (.running, 9), some (.arriving, 9)]
      ∧ applied .lapsed .delay 10 = some (.running, 10) ∧ applied .lapsed .delay 9 = none
      ∧ [.lapsed, .arriving, .cancelled].map (fun st => applied st .approach 9) = [some (.arriving, 3), some (.arriving, 3), none]
      ∧ [.lapsed, .departed].map (fun st => applied st .departed 9) = [some (.departed, 3), none]
      ∧ [.stale, .cancelled].map (fun st => applied st .cancel 9) = [some (.cancelled, 3), none]
      ∧ [.cancelled, .planned].map (fun st => applied st .reinstate 9) = [some (.planned, 0), none]
      ∧ [.arriving, .lapsed].map (fun st => applied st .platform 9) = [some (.arriving, 3), none] := by decide +kernel

/-- The entry of service 10 with a request lodged and the service chosen and offered. -/
theorem test_witness_RunningNotes_follow_ups :
    let q : StopReq := ⟨10, 400, .lodged, 0, .button⟩
    let s := { trains with
      tt := { trains.tt with stopReqs := [q] }
      sale := { (saleIn .selecting).sale with service := some (.train 10 400), offer := [(10, 400)] } }
    entryTen.last ≠ some ⟨.delay, 5, 1, true⟩ ∧ entryTen.last ≠ some ⟨.departed, 5, 1, false⟩
      ∧ (s.tt.stopReqs.find? fun q => decide (q.id = 10 ∧ q.day = entryTen.day)) = some q ∧ entryTen.svc.sellable = true
      ∧ s.sale.service = some (.train 10 entryTen.day) ∧ s.sale.state = .selecting ∧ s.sale.dest = some 1 ∧ (10, entryTen.day) ∈ s.sale.offer
      ∧ trains.sale.service ≠ some (.train 10 400) ∧ (paying 140 []).sale.state = .paying ∧ settling.sale.state = .settling := by decide

theorem test_witness_RowWrite :
    let cells : List Byte := (List.replicate 40 [65, 0]).flatten
    (boarded .clock).powered = true ∧ BuffersSafe (boarded .clock) ∧ cells.length = 80 ∧ (cellsOf cells).isSome = true
      ∧ 511 < beNat [2, 0] ∧ beNat [1, 255] ≤ 511 ∧ cellsOf (1 :: cells.drop 1) = none
      ∧ (∃ w ∈ (boarded .clock).board.windows, w.live.isSome = true ∧ w.base ≤ beNat [0, 4] ∧ beNat [0, 4] < w.base + w.length)
      ∧ ¬ (∃ w ∈ (boarded .clock).board.windows, w.live.isSome = true ∧ w.base ≤ beNat [0, 5] ∧ beNat [0, 5] < w.base + w.length)
      ∧ (panelRec (boarded .clock) 1).isSome = true := by
  unfold BuffersSafe; decide +kernel

theorem test_witness_WindowComposed :
    ready.powered = true ∧ (∀ x ∈ ready.board.windows, ¬ (x.marked = true ∧ x.live.isSome = true)) ∧ BuffersSafe ready
      ∧ ∀ k : WinKind, ((boarded k).board.windows.find? fun x => x.marked && x.live.isSome) = some (windowOf 0 k)
        ∧ (windowOf 0 k).live = some k ∧ BuffersSafe (boarded k) := by
  unfold BuffersSafe
  refine ⟨rfl, by decide, by decide +kernel, ?_⟩
  intro k
  cases k <;> decide +kernel

/-- A window of one row with one and with two candidates, its far row taken by those left over, and a NOTICES window of two rows with
one item shown and none beside it. -/
theorem test_witness_WindowComposed_rows :
    let two := { trains with tt := { trains.tt with entries := [entryTen, { entryTen with svc := { serviceTen with id := 11 } }] } }
    let w := { windowOf 0 .departures with moreLine := true }
    (candidates trains w).length = 1 ∧ 1 / 1 = w.length ∧ (candidates two w).length = 2 ∧ w.length < (candidates two w).length
      ∧ candidates ready w = [] ∧ exactFare selling = false ∧ selling.line.linkLost = false := by decide +kernel

/-- R99, R100: a calling row cut at 37 characters, with the faults of the two names that the table does not hold. -/
theorem test_calling_row_cut :
    let e : RunEntry := { entryTen with svc := { serviceTen with calls := [(1, 5), (7, 9), (1, 12), (63, 20), (1, 25)] } }
    let long : State := { trains with fares := some { priced with stops := [⟨[72], [72, 72, 72], 0, none⟩, ⟨text "Kilbarry", [75, 75, 75], 9, some 0⟩] } }
    let t (calls : List (Nat × Nat)) : State := after .composition { long with
      tt := { long.tt with entries := [{ e with svc := { e.svc with calls := calls } }] }
      board := { long.board with windows := [{ windowOf 0 .departures with length := 2, callingRows := true }] } }
    ((storeRow (t e.svc.calls) 5).map Cell.code) = text "Calling at Kilbarry, Stop 07, Kilbarr..."
      ∧ ((storeRow (t [(1, 5)]) 5).map Cell.code).take 22 = text "Calling at Kilbarry   "
      ∧ (t e.svc.calls).cond.faultRec = some ⟨.beyondLength, .board, 7, 400, 600, 1⟩ := by decide +kernel

theorem test_witness_PanelModeTaken :
    ready.powered = true ∧ ¬ (1 ≤ (0 : Byte).toNat) ∧ ¬ ((7 : Byte).toNat ≤ 6) ∧ ¬ ((3 : Byte).toNat ≤ 2)
      ∧ 1 ≤ (1 : Byte).toNat ∧ (6 : Byte).toNat ≤ 6 ∧ modeOfByte 2 = some .on ∧ modeOfByte 0 = some .off
      ∧ ready.panels.recs[(6 : Byte).toNat - 1]? = some PanelRec.coldStart ∧ PanelRec.coldStart.mode = .on
      ∧ (onBus (panelOne false 0) none).panels.recs[(1 : Byte).toNat - 1]? = some (panelOne false 0) := by decide

/-- A train is near to panel 1 with the wake lead at 5 and not with it at 4. -/
theorem test_witness_PanelModeTaken_train_near :
    let s (lead : Nat) : State := { requested with settings := { requested.settings with wakeLead := lead } }
    TimetableSafe (s 5) ∧ (s 5).clock.minute = 600 ∧ trainNear (s 5) 1 = true ∧ trainNear (s 4) 1 = false ∧ trainNear (s 5) 2 = false :=
  ⟨requested_safe, by decide, by decide +kernel, by decide +kernel, by decide +kernel⟩

/-- Panel 1 waits first from place 6; each message of its turn, and none while nothing waits. -/
theorem test_witness_BusTransaction :
    let waits (s : State) (q : Nat) : Prop := ∃ r, s.panels.recs[q - 1]? = some r ∧ r.present = true
      ∧ (if r.silent = true then r.pingDue = true else r.modePending = true ∨ (r.eff ≠ .off ∧ true ∈ r.marks))
    let s := onBus (panelOne false 0) none
    s.powered = true ∧ s.panels.inFlight = none ∧ (s.panels.place + 0) % 6 + 1 = 1 ∧ waits s 1
      ∧ s.panels.recs[0]? = some (panelOne false 0) ∧ (panelOne false 0).marks[0]? = some true
      ∧ waits (onBus { panelOne false 0 with modePending := true } none) 1
      ∧ waits (onBus { panelOne true 3 with pingDue := true } none) 1
      ∧ (onBus (panelOne false 0) (some .mode)).panels.inFlight.isSome = true
      ∧ ∀ q, 1 ≤ q → q ≤ 6 → ¬ waits ready q := by
  refine ⟨rfl, rfl, rfl, ⟨_, rfl, rfl, by decide⟩, rfl, rfl, ⟨_, rfl, rfl, by decide⟩, ⟨_, rfl, rfl, by decide⟩, rfl, ?_⟩
  rintro q h1 h2 ⟨r, hr, hp, -⟩
  have : r = PanelRec.coldStart := by
    have := List.mem_of_getElem? hr
    exact List.eq_of_mem_replicate (n := 6) this
  subst this
  exact absurd hp (by decide)

/-- A panel row that a shown window covers, that a hidden one covers, and that none covers. -/
theorem test_witness_BusTransaction_content :
    let s := boarded .clock
    let hidden := { s with board := { s.board with windows := [{ windowOf 0 .clock with shown := false }] } }
    let covered (s : State) (row : Nat) : List Bool :=
      (s.board.windows.filter fun w => decide (w.panel = 1 ∧ w.first ≤ row ∧ row < w.first + w.length)).map (·.shown)
    covered s 0 = [true] ∧ covered hidden 0 = [false] ∧ covered s 1 = [] ∧ BoardSafe s := by
  unfold BoardSafe; decide +kernel

theorem test_witness_AckAndMiss :
    let s (silent : Bool) (miss : Nat) : State := onBus (panelOne silent miss) (some (.row 0))
    ready.panels.inFlight = none ∧ (s false 2).panels.inFlight = some (1, .row 0) ∧ (s false 2).panels.recs[1 - 1]? = some (panelOne false 2)
      ∧ (panelOne false 2).silent = false ∧ (panelOne false 2).miss = 2 ∧ (panelOne false 0).miss ≠ 2 ∧ (panelOne true 3).silent = true
      ∧ (1 : Byte).toNat = 1 ∧ beNat (beBytes 2 (crc16 [1, 4]).toNat) = (crc16 [1, 4]).toNat
      ∧ (onBus (panelOne true 3) (some .ping)).panels.inFlight = some (1, .ping) := by decide +kernel

theorem test_witness_FareStages :
    1 ≤ priced.step ∧ (∀ f, selling.fares = some f → 1 ≤ f.step ∧ f.step ∣ f.childMin ∧ ∀ g ∈ f.groups, f.step ∣ g.cap)
      ∧ quoteFor selling ⟨1, .any, .ret, ⟨2, 1, 0⟩⟩ = .quote quoted := by
  refine ⟨by decide, ?_, by decide +kernel⟩
  intro f h
  cases Option.some.inj h
  decide

theorem test_witness_WakeBeginsSale :
    selling.powered = true ∧ selling.sale.state = .idle ∧ selling.cond.salesOpen = true ∧ ready.cond.salesOpen = false
      ∧ IsChoice (.destination 255) ∧ IsChoice (.party 0 15 0) :=
  ⟨rfl, rfl, rfl, rfl, ⟨rfl, .inl ⟨_, rfl⟩⟩, ⟨rfl, .inr (.inr (.inr ⟨_, _, _, rfl⟩))⟩⟩

/-- A sale to a stop whose offer held service 10. -/
def offering : State := { trains with sale := { (saleIn .selecting).sale with offer := [(10, 400)] } }

theorem test_witness_ChoicesTaken :
    offering.sale.state = .selecting ∧ (saleIn .quoted).sale.state = .quoted ∧ (paying 140 []).sale.state = .paying
      ∧ (issuing .coin).sale.state = .issuing ∧ settling.sale.state = .settling
      ∧ (offering.sale.offer.find? fun o => decide (o.1 = 10)) = some (10, 400) ∧ isSellable offering 10 400 = true
      ∧ (offering.sale.offer.find? fun o => decide (o.1 = 65534)) = none
      ∧ isSellable { offering with tt := selling.tt } 10 400 = false
      ∧ (9 ≤ 9 ∧ 1 ≤ 9 + 0 + 0 ∧ 9 + 0 + 0 ≤ 9) ∧ ¬ (10 ≤ 9) ∧ ¬ (1 ≤ 0 + 0 + 0) ∧ ¬ (9 + 1 + 0 ≤ 9) := by decide +kernel

/-- Both queries answered from a timetable with service 10; the name of its last stop, and none found. -/
theorem test_witness_ChoicesTaken_queries :
    TimetableSafe requested ∧ requested.clock.valid = true ∧ isSellable requested 10 400 = true ∧ isSellable requested 10 399 = false
      ∧ offered requested 1 = [(false, entryTen)] ∧ offered requested 2 = [] ∧ State.reset.clock.valid = false
      ∧ entryTen.svc.calls.getLast? = some (1, 5) ∧ requested.fares = some priced ∧ (priced.stops[1]?).isSome = true ∧ ready.fares = none :=
  ⟨requested_safe, rfl, by decide +kernel, by decide +kernel, by decide +kernel, by decide +kernel, rfl, rfl, rfl, rfl, rfl⟩

/-- Each refusal of the fare calculator past its first checks, and the bands that decide one of them. -/
theorem test_witness_QuoteOutcome_checks :
    let far (rate : Nat) : Tariff := { groupOne with rate1 := rate, taper := 2000, cap := 0 }
    let x (rate : Nat) : Fares := faresFor { priced with groups := [far rate] } (far rate) 2000 .peak .single
    let peak : State := { selling with clock := { selling.clock with minute := 120 } }
    selling.clock.weekday ≤ 6 ∧ selling.clock.weekday ≠ 5 ∧ selling.cond.ctrl.getLsbD 4 = false
      ∧ (120 ≤ peak.clock.minute ∧ peak.clock.minute < 210) ∧ ¬ (selling.clock.minute < 210)
      ∧ priced.stops[1]? = some ⟨[84], [84, 84, 84], 237, some 0⟩ ∧ priced.groups[0]? = some groupOne ∧ 1 ≠ priced.home
      ∧ 65535 < (x 65535).adult ∧ (x 30000).adult ≤ 65535 ∧ 99999 < 9 * (x 30000).adult
      ∧ (faresFor priced groupOne 237 .peak .ret).conc = none ∧ (faresFor priced groupOne 237 .peak .ret).adult ≤ 65535
      ∧ (faresFor priced groupOne 237 .offPeak .ret).conc ≠ none
      ∧ totalFare ⟨2, 1, 0⟩ (faresFor priced groupOne 237 .offPeak .ret) ≤ 99999 := by decide +kernel

theorem test_witness_QuoteOutcome :
    ready.sale.dest = none ∧ (saleIn .selecting).sale.dest = some 1 ∧ (saleIn .selecting).sale.product = some .ret
      ∧ (saleIn .selecting).sale.party = some ⟨2, 1, 0⟩
      ∧ quoteFor (saleIn .selecting) ⟨1, (saleIn .selecting).sale.service.getD .any, .ret, ⟨2, 1, 0⟩⟩ = .quote quoted
      ∧ (∃ why, quoteFor ready ⟨1, .any, .ret, ⟨2, 1, 0⟩⟩ = .refused why none)
      ∧ (∃ why f, quoteFor selling ⟨2, .any, .ret, ⟨2, 1, 0⟩⟩ = .refused why (some f))
      ∧ ready.fares = none ∧ selling.fares = some priced ∧ selling.clock.valid = true ∧ priced.stops.length ≤ 2
      ∧ priced.stops[0]? = some ⟨[72], [72, 72, 72], 0, none⟩ :=
  ⟨rfl, rfl, rfl, rfl, by decide +kernel, ⟨_, rfl⟩, ⟨_, _, rfl⟩, rfl, rfl, rfl, by decide, rfl⟩

/-- A CONFIRM whose reservation stays below the thresholds, with the modules at rest; a total of 0 too. -/
theorem test_witness_ConfirmTaken :
    let s := saleIn .quoted
    let free := { s with sale := { s.sale with quote := some { quoted with total := 0 } } }
    s.powered = true ∧ s.sale.state = .quoted ∧ s.sale.quote = some quoted ∧ (3701 : Nat) ≠ quoted.total ∧ 3700 = quoted.total
      ∧ fill s < 2048 ∧ s.jrn.reserved = false ∧ openRec s = none ∧ s.ret.nextSeq < 4294967295 ∧ fill s + 1 < s.settings.journalL1
      ∧ fill s + 1 < s.settings.journalL2 ∧ s.jrn.l1 = false ∧ s.jrn.l2 = false ∧ s.pay.accept = false ∧ s.pay.armed = false
      ∧ s.pay.escrow = [] ∧ (99999 : Nat) ≤ 99999 ∧ (free.sale.quote.map (·.total)) = some 0
      ∧ { s with jrn := { s.jrn with reserved := true } }.jrn.reserved = true
      ∧ 1 ≤ free.ret.current.count ∧ free.sale.dest = some 1 ∧ free.sale.product = some .ret ∧ free.sale.party = some ⟨2, 1, 0⟩
      ∧ (let low (l1 l2 : Nat) : State := { s with settings := { s.settings with journalL1 := l1, journalL2 := l2 } }
         (low 1 2).settings.journalL1 ≤ fill (low 1 2) + 1 ∧ fill (low 1 2) + 1 < (low 1 2).settings.journalL2
          ∧ (low 1 1).settings.journalL2 ≤ fill (low 1 1) + 1 ∧ (low 1 1).cond.salesOpen = true) := by decide +kernel

theorem test_witness_SaleAbandoned :
    (saleIn .selecting).sale.state = .selecting ∧ (saleIn .quoted).sale.state = .quoted ∧ (paying 140 [100]).sale.state = .paying
      ∧ (paying 140 [100]).sale.inactivity.isSome = true ∧ ready.sale.state = .idle ∧ ready.sale.inactivity = none := by decide

theorem test_witness_StopRequest :
    let request (i : Nat) : StopReq := ⟨i, 399, .lodged, 0, .button⟩
    let full := { trains with tt := { trains.tt with stopReqs := (List.range 8).map request } }
    let merged := { trains with tt := { trains.tt with stopReqs := [⟨10, 400, .lodged, 0, .button⟩] } }
    firstRequestable ready 1 = none ∧ firstRequestable ready 65535 = none ∧ firstRequestable trains 10 = some entryTen
      ∧ findEntry trains 10 entryTen.day = some (false, entryTen) ∧ firstRequestable full 10 = some entryTen
      ∧ findEntry full 10 400 = some (false, entryTen) ∧ 8 ≤ full.tt.stopReqs.length
      ∧ (full.tt.stopReqs.find? fun q => decide (q.id = 10 ∧ q.day = 400)) = none
      ∧ firstRequestable merged 10 = some entryTen ∧ findEntry merged 10 400 = some (false, entryTen)
      ∧ (merged.tt.stopReqs.find? fun q => decide (q.id = 10 ∧ q.day = 400)).isSome = true
      ∧ (trains.tt.stopReqs = [] ∧ trains.cond.ctrl.getLsbD 10 = true) := by decide +kernel

/-- R199: a lodged request is reported, once. -/
theorem test_stop_report : (after (.stopRequest 10) trains).line.ownQ.map (·.kind) = [.haltReport] := by decide +kernel

/-- A coin short of the total, the coin that reaches it, one above it with change, and a refused one. -/
theorem test_witness_CoinOffered :
    let s := paying 140 [100]
    s.powered = true ∧ s.sale.state = .paying ∧ s.pay.coinAvail = true ∧ s.pay.escrow.length < 16 ∧ s.sale.paid < saleTotal s
      ∧ s.sale.paid = s.pay.escrow.sum ∧ s.pay.accept = true ∧ s.sale.paid + 20 < saleTotal s
      ∧ s.sale.paid + 50 = saleTotal s + 10 ∧ (changePlan s 10).isSome = true ∧ (5 : Nat) ≤ 65535
      ∧ (changePlan { s with ret := { s.ret with tubes := ⟨0, 0, 0, 0⟩ } } 10) = none ∧ ready.sale.state ≠ .paying
      ∧ s.sale.paid + 50 - saleTotal s = 10 ∧ s.sale.quote = some { quoted with total := 140 } ∧ s.sale.dest = some 1
      ∧ s.sale.product = some .ret ∧ s.sale.party = some ⟨2, 1, 0⟩ ∧ 1 ≤ s.ret.current.count ∧ (paying 150 [100]).sale.paid + 50 = 150 := by
  decide +kernel

theorem test_witness_ChangePlanExact :
    selling.pay.outstanding = none ∧ (190 : Nat) ≤ 190 ∧ changePlan selling 190 = some ⟨0, 2, 1, 1⟩ ∧ settling.pay.outstanding ≠ none
      ∧ changePlan selling 0 = some ⟨0, 0, 0, 0⟩ := by decide +kernel

theorem test_witness_CardJudged :
    let s := paying 140 []
    s.powered = true ∧ s.sale.state = .paying ∧ s.pay.escrow = [] ∧ s.pay.cardAvail = true ∧ 5 ∉ s.pay.deny
      ∧ saleTotal s ≤ s.settings.cardFloor ∧ s.pay.tally = [] ∧ s.sale.quote = some { quoted with total := 140 } ∧ s.sale.dest = some 1
      ∧ s.sale.product = some .ret ∧ s.sale.party = some ⟨2, 1, 0⟩ ∧ 2 ≤ s.ret.current.count
      ∧ (paying 140 [100]).pay.escrow ≠ [] ∧ ready.sale.state ≠ .paying ∧ 2 ^ 64 - 1 < 2 ^ 64 := by decide +kernel

theorem test_witness_PrintDone :
    let s := issuing .coin
    let t := { s with
      sale := { s.sale with planned := 30 }, pay := { s.pay with escrow := [200], plan := some ⟨1, 1, 0, 0⟩ } }
    (issuing .card).sale.state = .issuing ∧ openRec (issuing .card) = some (openOne .card)
      ∧ (issuing .card).sale.medium = some .card ∧ (openOne .card).medium = .card ∧ (issuing .card).ret.pendingClose = none
      ∧ (pendingDay (issuing .card)).ret.pendingClose.isSome = true ∧ openRec (pendingDay (issuing .card)) = some (openOne .card)
      ∧ s.sale.planned = 0 ∧ s.sale.medium = some .coin ∧ (openOne .coin).medium = .coin ∧ s.pay.escrow = []
      ∧ openRec s = some (openOne .coin)
      ∧ t.sale.state = .issuing ∧ openRec t = some (openOne .coin) ∧ t.sale.medium = some .coin ∧ 0 < t.sale.planned ∧ t.pay.escrow ≠ []
      ∧ t.pay.plan = some ⟨1, 1, 0, 0⟩ ∧ ready.sale.state ≠ .issuing := by decide +kernel

/-- R161 step 1: a 200 and a coin of a full tube go to the cash box. R170: a full tally loses the entry of the earliest last use, and of
these the lowest token. -/
theorem test_coins_dropped_and_tally_full :
    let l : List TallyEntry := (List.range 64).map fun i => ⟨i, 5, 1, if i = 9 ∨ i = 8 then 3 else 7⟩
    dropCoins ⟨149, 0, 0, 80⟩ [200, 10, 10, 100, 20] = ([.cashBox, .tube 10, .cashBox, .cashBox, .tube 20], ⟨150, 1, 0, 80⟩)
      ∧ l.length = 64 ∧ (∀ e ∈ l, e.token ≠ 99) ∧ (∃ e ∈ l, e.token = 8) ∧ (∀ e ∈ l.take 63, e.token ≠ 99)
      ∧ (tallyTake 99 6 700 l).length = 64 ∧ ⟨99, 6, 1, 700⟩ ∈ tallyTake 99 6 700 l ∧ (∀ e ∈ tallyTake 99 6 700 l, e.token ≠ 8)
      ∧ (⟨8, 11, 2, 700⟩ : TallyEntry) ∈ tallyTake 8 6 700 l := by decide +kernel

/-- R151: each outcome of the stop request of a completed sale is one of a state at hand. -/
theorem test_witness_saleStop :
    let to10 (s : State) : State := { s with sale := { s.sale with service := some (.train 10 400), request := true } }
    let held (e : RunEntry) (l : List StopReq) : State := to10 { trains with tt := { trains.tt with entries := [e], stopReqs := l } }
    saleStop trains = (.none, none, []) ∧ saleStop (to10 selling) = (.notRequestable, none, [])
      ∧ saleStop (held entryTen []) = (.lodged, some .lodged, [⟨10, 400, .lodged, 600, .sale⟩])
      ∧ (saleStop (held entryTen [⟨10, 400, .ordered, 0, .button⟩])).2.1 = some .ordered
      ∧ (saleStop (held { entryTen with state := .lapsed } [])).1 = .notRequestable
      ∧ (saleStop (held entryTen ((List.range 8).map fun i => ⟨i, 399, .lodged, 0, .button⟩))).1 = .listFull := by decide +kernel

/-- R148, R195: a failed print whose close settles a day close that brings JOURNAL_L2, here masked: the ALERT of PRINTER_FAULT carries both
flags, and SALES_OPEN still present, which is evaluated once after both. -/
theorem test_failed_print_at_l2 :
    let p := pendingDay (issuing .coin)
    let t := after .fault { p with
      settings := { p.settings with journalL1 := 1, journalL2 := 2 }
      cond := { p.cond with masks := p.cond.masks ||| noticeSet .journalL2 } }
    t.cond.salesOpen = false ∧ t.jrn.l2 = true
      ∧ t.line.ownQ.map (fun f => ((f.chars.drop 9).take 2).map fun b => (b.getLsbD 4, b.getLsbD 7)) =
          [[(true, false), (true, true)]] := by decide +kernel

theorem test_witness_PrintFailed :
    (issuing .coin).printerFault = false ∧
    (issuing .coin).sale.state = .issuing ∧ openRec (issuing .coin) = some (openOne .coin)
      ∧ openRec (pendingDay (issuing .coin)) = some (openOne .coin) ∧ (issuing .coin).sale.print.isSome = true ∧ ready.sale.state ≠ .issuing
      ∧ ready.printerFault = false ∧ { ready with printerFault := true }.printerFault = true := by decide +kernel

theorem test_witness_PayoutSettles :
    ready.pay.outstanding = none ∧ settling.pay.outstanding = some ⟨1, 1, 0, 0⟩ ∧ settling.sale.state = .settling
      ∧ openRec settling = some (openOne .coin) ∧ openRec (pendingDay settling) = some (openOne .coin)
      ∧ settling.sale.payout.isSome = true ∧ (255 : Nat) ≤ 255 ∧ ready.sale.state ≠ .settling
      ∧ { ready with pay := { ready.pay with outstanding := some ⟨1, 0, 0, 0⟩ } }.pay.outstanding = some ⟨1, 0, 0, 0⟩ := by
  decide +kernel

theorem test_witness_ModuleReadiness :
    let s := paying 140 [100]
    let told : State := { s with pay := { s.pay with coinReady := false, coinAvail := false, cardReady := false, cardAvail := false } }
    selling.powered = true ∧ selling.sale.state = .idle ∧ selling.pay.accept = false ∧ selling.pay.armed = false
      ∧ s.sale.state = .paying ∧ s.cond.salesOpen = true ∧ salesOpenNow told = false
      ∧ (saleIn .quoted).pay.accept = false ∧ (saleIn .quoted).pay.armed = false ∧ (saleIn .quoted).cond.salesOpen = true := by
  decide +kernel

/-- The states in which a card NOT_READY, or a coin one, ends the last availability. -/
theorem test_witness_ModuleReadiness_falls :
    let only (coin : Bool) : State := { paying 140 [] with pay := { (paying 140 []).pay with
      coinReady := coin, coinAvail := coin, cardReady := !coin, cardAvail := !coin } }
    ∀ coin, (only coin).cond.salesOpen = true ∧ salesOpenNow (only coin) = true
      ∧ salesOpenNow { only coin with pay := { (only coin).pay with
          coinReady := false, coinAvail := false, cardReady := false, cardAvail := false } } = false := by decide +kernel

theorem test_witness_TubeSet : ready.powered = true := rfl

/-- A list of 2047 tokens would take one more; one of 2048 none. -/
theorem test_witness_DenyList :
    ready.powered = true ∧ ¬ (1 ≤ (0 : Byte).toNat) ∧ ¬ ((25 : Byte).toNat ≤ 24) ∧ readTokens (1 : Byte).toNat [0] = none
      ∧ readTokens (1 : Byte).toNat [0, 0, 0, 0, 0, 0, 0, 9] = some [9] ∧ ready.pay.deny.Pairwise (· < ·)
      ∧ ready.pay.deny.length + ([9].dedup.filter fun x => decide (x ∉ ready.pay.deny)).length ≤ 2048
      ∧ beNat [0, 1] ≠ ready.pay.deny.length ∧ beNat [0, 0] = ready.pay.deny.length
      ∧ ∃ s : State, s.pay.deny.Pairwise (· < ·)
        ∧ 2048 < s.pay.deny.length + ([9999].dedup.filter fun x => decide (x ∉ s.pay.deny)).length := by
  obtain ⟨l, h1, h2, h3⟩ : ∃ l : List Nat, l.Pairwise (· < ·) ∧ l.length = 2048 ∧ 9999 ∉ l :=
    ⟨List.range 2048, List.pairwise_lt_range, List.length_range, by rw [List.mem_range]; omega⟩
  refine ⟨rfl, by decide, by decide, by decide, by decide +kernel, by decide, by decide +kernel, by decide, by decide,
    { ready with pay := { ready.pay with deny := l } }, h1, ?_⟩
  simp [h2, h3]

theorem test_witness_SerialBlockTaken :
    let both := { ready with ret := { ready.ret with current := ⟨5, 2⟩, standby := ⟨9, 2⟩, lastSerial := 4 } }
    (1 ≤ beNat [0, 1, 0x86, 0xA0] ∧ beNat [0, 1, 0x86, 0xA0] ≤ 100000) ∧ ¬ (beNat [0, 1, 0x86, 0xA1] ≤ 100000)
      ∧ ¬ (1 ≤ beNat [0, 0, 0, 0]) ∧ both.ret.lastSerial < beNat [0, 0, 0, 11] ∧ 9 + 2 - 1 < beNat [0, 0, 0, 11]
      ∧ ¬ (9 + 2 - 1 < beNat [0, 0, 0, 10]) ∧ both.ret.current.count ≠ 0 ∧ both.ret.standby.count ≠ 0
      ∧ ready.ret.current.count = 0 ∧ ready.ret.lastSerial < beNat [0, 0, 0, 1] := by decide +kernel

theorem test_witness_JournalUpload :
    let s := storing
    let limit := if openRec s = none then s.ret.nextSeq else s.ret.nextSeq - 1
    s.powered = true ∧ BuffersSafe s ∧ beNat [0, 0, 0, 0] < s.ret.ackPoint
      ∧ (s.line.linkLost = false ∧ s.line.straps.haltNumber ≠ 0 ∧ s.line.ownQ.length ≤ 3 ∧ s.jrn.sendPoint < limit
          ∧ s.jrn.sendPoint - s.ret.ackPoint < 24)
      ∧ ready.line.linkLost = true
      ∧ (after .journalBuild s).ret.ackPoint ≤ beNat [0, 0, 0, 3] ∧ beNat [0, 0, 0, 3] < (after .journalBuild s).jrn.highPoint := by
  unfold BuffersSafe; decide +kernel

theorem test_witness_FlagsAndNotices :
    ((3 : Byte) ≠ 1 ∧ (3 : Byte) ≠ 2) ∧ ready.powered = true ∧ (ready.cond.ctrl ||| BitVec.ofNat 13 (beNat [0, 0, 0, 4])) = ready.cond.ctrl
      ∧ (ready.cond.ctrl ||| BitVec.ofNat 13 (beNat [0, 0, 0, 1])) ≠ ready.cond.ctrl
      ∧ (ready.cond.ctrl &&& ~~~(BitVec.ofNat 13 (beNat [0, 0, 0, 4]))) ≠ ready.cond.ctrl
      ∧ (ready.cond.ctrl ||| BitVec.ofNat 13 (beNat [0, 0, 0, 0x20])).getLsbD 5 ≠ ready.cond.ctrl.getLsbD 5
      ∧ (ready.cond.ctrl ||| BitVec.ofNat 13 (beNat [0, 0, 2, 0])).getLsbD (6 + 3) ≠ ready.cond.ctrl.getLsbD (6 + 3) := by decide

theorem test_witness_ReportsAndFaultClear :
    ready.powered = true ∧ ([] : List Byte).length ≠ 1 ∧ ([1] : List Byte) ≠ [] ∧ ready.cond.reportTimer = none
      ∧ { ready with cond := { ready.cond with reportTimer := some 0 } }.cond.reportTimer ≠ none ∧ ready.cond.faultRec = none
      ∧ (let r : FaultRec := ⟨.absent, .cadence, 5, 314, 1200, 255⟩
         let s := { ready with cond := { ready.cond with faultRec := some r }, pending := [.cancel] }
         s.cond.faultRec = some r ∧ r.later ≤ 255 ∧ MayClearFault .cancel = false ∧ ∃ t, step s = .next t) :=
  ⟨rfl, by decide, by decide, rfl, by decide, rfl, rfl, by decide, rfl, _, rfl⟩

/-- R197: a notice raised while none is pending makes an ALERT, one raised beside another none, nor does a masked one. -/
theorem test_notice_alert :
    let with_ (pending masks : BitVec 16) : State := { linked with cond := { linked.cond with pending := pending, masks := masks } }
    ((raiseNotice .tubeLow (with_ 0 0)).line.ownQ.length, (raiseNotice .tubeLow (with_ 1 0)).line.ownQ.length,
      (raiseNotice .tubeLow (with_ 0 0x0080)).line.ownQ.length) = (1, 0, 0)
      ∧ (raiseNotice .tubeLow (with_ 0 0x0080)).cond.pending = 0x0080 := by decide +kernel

theorem test_witness_LineSettingsClockKept :
    (LineSafe linked ∧ SettingsSafe linked.settings ∧ ClockSafe linked) ∧ ∃ t, step { linked with pending := [.inboundMerge] } = .next t := by
  refine ⟨?_, _, rfl⟩
  refine ⟨by unfold LineSafe; decide +kernel, by unfold SettingsSafe; decide +kernel, ?_⟩
  refine ⟨by decide, by decide, by decide, by decide, ?_, ?_, fun _ => rfl, ?_⟩
  · intro m h; cases h
  · intro m h; cases h
  · intro m h; cases h

theorem test_witness_ListsAndStoresKept :
    (TimetableSafe storing ∧ BoardSafe storing ∧ BuffersSafe storing ∧ PaymentSafe storing ∧ SerialsSafe storing.ret)
      ∧ ∃ t, step { storing with pending := [.journalBuild] } = .next t := by
  refine ⟨⟨?_, ?_⟩, _, rfl⟩
  · refine ⟨by decide, by decide, by decide, by decide, by decide, by decide, ?_, by decide, by decide, by decide, by decide, by decide⟩
    rintro b (h | h) <;> cases h
  · unfold BoardSafe BuffersSafe PaymentSafe SerialsSafe
    decide +kernel

/-- The timetable's invariant with a bank, an entry and a stop request for it, and a command that moves the entry. -/
theorem test_witness_ListsAndStoresKept_requested :
    TimetableSafe requested ∧ requested.tt.stopReqs.length = 1
      ∧ (after (.runningUpdate .all [1, 0, 10, 1, 144, 4, 0, 0, 0, 0]) requested).tt.stopReqs = [] :=
  ⟨requested_safe, rfl, by decide +kernel⟩

theorem test_witness_SaleKept :
    SaleSafe (paying 140 [100]) ∧ ∃ t, step { paying 140 [100] with pending := [.cancel] } = .next t := by
  refine ⟨?_, _, rfl⟩
  unfold SaleSafe
  decide +kernel

/-- A halt that stores records, every flag standing as it is derived. -/
theorem test_witness_JournalAndFlagsKept :
    (JournalSafe storing ∧ FlagsDerived storing) ∧ ∃ t, step { storing with pending := [.journalBuild] } = .next t := by
  refine ⟨?_, _, rfl⟩
  unfold JournalSafe FlagsDerived
  decide +kernel

theorem test_witness_ModuleMessagesChangeNoTable :
    FromModule .wake = true ∧ ∃ t, exec .wake selling = .next t := ⟨rfl, _, rfl⟩

theorem test_witness_StepTakesTheFrontCommand : ∃ t, step { ready with pending := [.cancel, .wake] } = .next t ∧ t.pending = [.wake] :=
  ⟨_, rfl, by decide +kernel⟩

end Sys2Proof.Tests
end

section
/-! PROOFS. What a consumed frame leaves of the line unit (R15 to R18): the commands of Table 12-2 reach the own-frame queue, the streak
count and the three counters; straps, receivers, transmitters, transit queues and the link-silence timer are out of their reach, but for a
SETTING of the link silence that the timer has already measured. -/

namespace Sys2Proof.Proofs

open Sys2Proof Sys2Proof.Machine Sys2Proof.Laws

/-- The line unit without what consumed frames may change: own frames waiting, the streak count, the counters of R20. -/
def lineCore (l : Line) : Line := { l with ownQ := [], streak := 0, checkErrors := 0, transitDrops := 0, ownDrops := 0 }

theorem linkTimer_of_lineCore {l k : Line} (h : lineCore l = lineCore k) : l.linkTimer = k.linkTimer :=
  (congrArg Line.linkTimer h : (lineCore l).linkTimer = (lineCore k).linkTimer)

theorem linkLost_of_lineCore {l k : Line} (h : lineCore l = lineCore k) : l.linkLost = k.linkLost :=
  (congrArg Line.linkLost h : (lineCore l).linkLost = (lineCore k).linkLost)

/-- The shared operations reach no more of the line than the own-frame queue and its counter. -/
theorem lineCore_of_keeps {s t : State} (h : Keeps s t) : lineCore t.line = lineCore s.line := by rw [h.line]; rfl

/-- One of two. -/
@[simp] theorem lineCore_ite (c : Prop) [Decidable c] (s t : State) :
    lineCore (if c then s else t).line = if c then lineCore s.line else lineCore t.line := by
  split <;> rfl

/-- A list of operations, each of which keeps the core of the line. -/
theorem lineCore_foldl {β : Type} (f : State → β → State) (hf : ∀ s b, lineCore (f s b).line = lineCore s.line) :
    ∀ (l : List β) (s : State), lineCore (l.foldl f s).line = lineCore s.line
  | [], _ => rfl
  | b :: l, s => (lineCore_foldl f hf l (f s b)).trans (hf s b)

/-! ### The shared operations (Ops.lean, Running.lean, Sale.lean) -/

@[simp] theorem lineCore_answer (d : Dest) (k : Byte) (a : Answer) (r : List Byte) (s : State) :
    lineCore (answer d k a r s).line = lineCore s.line := lineCore_of_keeps (keeps_answer d k a r s)

@[simp] theorem lineCore_report (why : ReportReason) (s : State) : lineCore (report why s).line = lineCore s.line :=
  lineCore_of_keeps (keeps_report why s)

@[simp] theorem lineCore_alertAfter (b s : State) : lineCore (alertAfter b s).line = lineCore s.line :=
  lineCore_of_keeps (keeps_alertAfter b s)

@[simp] theorem lineCore_raiseNotice (n : Notice) (s : State) : lineCore (raiseNotice n s).line = lineCore s.line :=
  lineCore_of_keeps (keeps_raiseNotice n s)

@[simp] theorem lineCore_raiseIf (b : Bool) (n : Notice) (s : State) : lineCore (raiseIf b n s).line = lineCore s.line :=
  lineCore_of_keeps (keeps_raiseIf b n s)

@[simp] theorem lineCore_captureFault (f : TableFault) (s : State) : lineCore (captureFault f s).line = lineCore s.line :=
  lineCore_of_keeps (keeps_captureFault f s)

@[simp] theorem lineCore_setSalesOpen (s : State) : lineCore (setSalesOpen s).line = lineCore s.line :=
  lineCore_of_keeps (keeps_setSalesOpen s)

@[simp] theorem lineCore_evalSalesOpen (s : State) : lineCore (evalSalesOpen s).line = lineCore s.line :=
  lineCore_of_keeps (keeps_evalSalesOpen s)

@[simp] theorem lineCore_evalFill (s : State) : lineCore (evalFill s).line = lineCore s.line :=
  lineCore_of_keeps (keeps_evalFill s)

@[simp] theorem lineCore_evalSerials (s : State) : lineCore (evalSerials s).line = lineCore s.line :=
  lineCore_of_keeps (keeps_evalSerials s)

@[simp] theorem lineCore_evalTubes (s : State) : lineCore (evalTubes s).line = lineCore s.line :=
  lineCore_of_keeps (keeps_evalTubes s)

@[simp] theorem lineCore_evalDenyOld (s : State) : lineCore (evalDenyOld s).line = lineCore s.line :=
  lineCore_of_keeps (keeps_evalDenyOld s)

@[simp] theorem lineCore_evalAccept (s : State) : lineCore (evalAccept s).line = lineCore s.line :=
  lineCore_of_keeps (keeps_evalAccept s)

@[simp] theorem lineCore_evalArm (s : State) : lineCore (evalArm s).line = lineCore s.line :=
  lineCore_of_keeps (keeps_evalArm s)

@[simp] theorem lineCore_setAvail (s : State) : lineCore (setAvail s).line = lineCore s.line :=
  lineCore_of_keeps (keeps_setAvail s)

@[simp] theorem lineCore_abandonOpen (why : CloseReason) (s : State) : lineCore (abandonOpen why s).line = lineCore s.line :=
  lineCore_of_keeps (keeps_abandonOpen why s)

@[simp] theorem lineCore_requestQuote (s : State) : lineCore (requestQuote s).line = lineCore s.line :=
  lineCore_of_keeps (keeps_requestQuote s)

@[simp] theorem lineCore_keepRequest (s : State) : lineCore (keepRequest s).line = lineCore s.line :=
  lineCore_of_keeps (keeps_keepRequest s)

@[simp] theorem lineCore_tellCeased (id day : Nat) (s : State) : lineCore (tellCeased id day s).line = lineCore s.line :=
  lineCore_of_keeps (keeps_tellCeased id day s)

@[simp] theorem lineCore_tellAllCeased (keys : List (Nat × Nat)) (s : State) :
    lineCore (tellAllCeased keys s).line = lineCore s.line := lineCore_of_keeps (keeps_tellAllCeased keys s)

@[simp] theorem lineCore_setPanelMode (p : Nat) (m : PanelMode) (s : State) :
    lineCore (setPanelMode p m s).line = lineCore s.line := lineCore_of_keeps (keeps_setPanelMode p m s)

@[simp] theorem lineCore_evalWindowPanel (w : Window) (s : State) : lineCore (evalWindowPanel w s).line = lineCore s.line :=
  lineCore_of_keeps (keeps_evalWindowPanel w s)

@[simp] theorem lineCore_setCtrl (new : BitVec 13) (s : State) : lineCore (setCtrl new s).line = lineCore s.line := by
  simp [setCtrl]

/-! ### The stop request list and running notes (R65 to R69, R75 to R78) -/

@[simp] theorem syncReportTimer_line (s : State) : (syncReportTimer s).line = s.line := rfl

@[simp] theorem confirmStop_line (id day : Nat) (s : State) : (confirmStop id day s).line = s.line := by
  unfold confirmStop
  split <;> simp

@[simp] theorem lineCore_removeReq (id day : Nat) (s : State) : lineCore (removeReq id day s).line = lineCore s.line := by
  unfold removeReq
  split <;> simp

@[simp] theorem lineCore_removeReqs (keys : List (Nat × Nat)) (s : State) :
    lineCore (removeReqs keys s).line = lineCore s.line := 
  lineCore_foldl (fun (s : State) (k : Nat × Nat) => removeReq k.1 k.2 s) (fun s k => lineCore_removeReq k.1 k.2 s) keys s

@[simp] theorem putEntry_line (held : Bool) (e : RunEntry) (s : State) : (putEntry held e s).line = s.line := by
  unfold putEntry
  split <;> rfl

@[simp] theorem lineCore_afterNote (old new : RunEntry) (s : State) : lineCore (afterNote old new s).line = lineCore s.line := by
  simp [afterNote]

@[simp] theorem lineCore_noteFound (held : Bool) (e : RunEntry) (c : NoteContent) (s : State) :
    lineCore (noteFound held e c s).line = lineCore s.line := by
  unfold noteFound
  split
  · rfl
  · split <;> simp

@[simp] theorem lineCore_takeNote (n : RawNote) (s : State) : lineCore (takeNote n s).line = lineCore s.line := by
  unfold takeNote
  split
  · exact lineCore_noteFound _ _ _ s
  · rfl

@[simp] theorem lineCore_takeRunningUpdate (body : List Byte) (s : State) :
    lineCore (takeRunningUpdate body s).line = lineCore s.line := by
  unfold takeRunningUpdate
  split
  · rfl
  · split
    · split
      · exact lineCore_foldl (fun s n => takeNote n s) (fun s n => lineCore_takeNote n s) _ s
      · rfl
    · rfl

/-! ### The board and the panels (R85, R90, R91, R104 to R108, R112) -/

@[simp] theorem updWindow_line (n : Nat) (f : Window → Window) (s : State) : (updWindow n f s).line = s.line := rfl

@[simp] theorem markPanelRow_line (p row : Nat) (s : State) : (markPanelRow p row s).line = s.line := updPanel_line _ _ s

@[simp] theorem lineCore_markShowing (r : Nat) (s : State) : lineCore (markShowing r s).line = lineCore s.line :=
  lineCore_foldl _ (fun s w => by simp) s.board.windows s

@[simp] theorem lineCore_markWindowRows (w : Window) (s : State) : lineCore (markWindowRows w s).line = lineCore s.line :=
  lineCore_foldl _ (fun s i => by simp) (List.range w.length) s

@[simp] theorem lineCore_writeRow (r : Nat) (row : Row) (s : State) : lineCore (writeRow r row s).line = lineCore s.line := by
  simp [writeRow]

@[simp] theorem lineCore_officeRow (r : Nat) (cells : List Byte) (s : State) :
    lineCore (officeRow r cells s).1.line = lineCore s.line := by
  unfold officeRow
  split
  · rfl
  · split
    · rfl
    · split
      · rfl
      · exact lineCore_writeRow _ _ s

@[simp] theorem lineCore_takeRowWrite (d : Dest) (body : List Byte) (s : State) :
    lineCore (takeRowWrite d body s).line = lineCore s.line := by
  unfold takeRowWrite
  split <;> simp

@[simp] theorem lineCore_showWindow (w : Window) (s : State) : lineCore (showWindow w s).line = lineCore s.line := by
  simp [showWindow]

@[simp] theorem lineCore_hideWindow (w : Window) (s : State) : lineCore (hideWindow w s).line = lineCore s.line := by
  simp [hideWindow]

@[simp] theorem boardTick_line (s : State) : (boardTick s).line = s.line := rfl

@[simp] theorem panelTick_line (s : State) : (panelTick s).line = s.line := rfl

@[simp] theorem boardRestart_line (s : State) : (boardRestart s).line = s.line := rfl

@[simp] theorem panelRestart_line (s : State) : (panelRestart s).line = s.line := rfl

@[simp] theorem lineCore_takePanelMode (body : List Byte) (s : State) :
    lineCore (takePanelMode body s).line = lineCore s.line := by
  unfold takePanelMode
  split
  · split
    · split
      · exact lineCore_setPanelMode _ _ s
      · rfl
    · rfl
  · rfl

@[simp] theorem commitWindows_line (version : Nat) (rs : List RawWindow) (s : State) :
    (commitWindows version rs s).1.line = s.line := by
  unfold commitWindows
  split <;> rfl

/-! ### The journal (R181, R183, R186, R188 to R191) -/

@[simp] theorem closeAs_line (r : SaleRec) (s : State) : (closeAs r s).line = s.line := rfl

@[simp] theorem writeDayClose_line (d : DayClose) (s : State) : (writeDayClose d s).line = s.line := rfl

@[simp] theorem settlePending_line (s : State) : (settlePending s).line = s.line := by
  unfold settlePending
  split
  · rfl
  · dsimp only
    split <;> rfl

@[simp] theorem recoverRecord_line (why : VoidReason) (s : State) : (recoverRecord why s).line = s.line := by
  unfold recoverRecord
  split <;> simp

@[simp] theorem journalRestart_line (s : State) : (journalRestart s).line = s.line := recoverRecord_line _ _

@[simp] theorem lineCore_journalDayEnd (d m : Nat) (s : State) : lineCore (journalDayEnd d m s).line = lineCore s.line := by
  unfold journalDayEnd
  split <;> simp

@[simp] theorem lineCore_acknowledge (n : Nat) (s : State) : lineCore (acknowledge n s).line = lineCore s.line := by
  simp [acknowledge]

@[simp] theorem lineCore_takeJournalAck (body : List Byte) (s : State) :
    lineCore (takeJournalAck body s).line = lineCore s.line := by
  unfold takeJournalAck
  split <;> simp

@[simp] theorem lineCore_takeBlock (first count : Nat) (s : State) : lineCore (takeBlock first count s).1.line = lineCore s.line := by
  unfold takeBlock
  split_ifs <;> simp

@[simp] theorem lineCore_takeSerialBlock (d : Dest) (body : List Byte) (s : State) :
    lineCore (takeSerialBlock d body s).line = lineCore s.line := by
  unfold takeSerialBlock
  split <;> simp

/-! ### Payment (R164, R167 to R169, R172) -/

@[simp] theorem lineCore_setTubes (counts : Tubes) (s : State) : lineCore (setTubes counts s).1.line = lineCore s.line := by
  simp [setTubes]

@[simp] theorem lineCore_takeTubeSet (d : Dest) (body : List Byte) (s : State) :
    lineCore (takeTubeSet d body s).line = lineCore s.line := by
  unfold takeTubeSet
  split <;> simp

@[simp] theorem addTokens_line (ts : List Nat) (s : State) : (addTokens ts s).1.line = s.line := by
  unfold addTokens
  dsimp only
  split <;> rfl

@[simp] theorem lineCore_takeDenyAdd (d : Dest) (body : List Byte) (s : State) :
    lineCore (takeDenyAdd d body s).line = lineCore s.line := by
  unfold takeDenyAdd
  split
  · split
    · split <;> simp
    · simp
  · simp

@[simp] theorem lineCore_setDenyAge (n : Nat) (s : State) : lineCore (setDenyAge n s).line = lineCore s.line := by
  simp [setDenyAge]

@[simp] theorem lineCore_denyTick (s : State) : lineCore (denyTick s).line = lineCore s.line := lineCore_setDenyAge _ s

@[simp] theorem lineCore_takeDenyConfirm (body : List Byte) (s : State) :
    lineCore (takeDenyConfirm body s).line = lineCore s.line := by
  unfold takeDenyConfirm
  split <;> simp

@[simp] theorem lineCore_commitDeny (tokens : List Nat) (s : State) : lineCore (commitDeny tokens s).1.line = lineCore s.line := by
  unfold commitDeny
  dsimp only
  split <;> simp

@[simp] theorem tallyClear_line (s : State) : (tallyClear s).line = s.line := rfl

@[simp] theorem paymentRestart_line (s : State) : (paymentRestart s).line = s.line := rfl

/-! ### The timetable (R61, R63, R70 to R74, R83) -/

@[simp] theorem lineCore_commitToday (b : Bank) (s : State) : lineCore (commitToday b s).line = lineCore s.line := by
  simp [commitToday]

@[simp] theorem commitNext_line (b : Bank) (s : State) : (commitNext b s).line = s.line := rfl

@[simp] theorem lineCore_commitTimetable (version : Nat) (r : LoadRange) (rs : List RawService) (s : State) :
    lineCore (commitTimetable version r rs s).1.line = lineCore s.line := by
  unfold commitTimetable
  split
  · rfl
  · split <;> simp

@[simp] theorem lineCore_timetableTick (s : State) : lineCore (timetableTick s).line = lineCore s.line := by
  have htell : ∀ (l : List RunEntry) (t : State),
      lineCore (l.foldl (fun t e => tellComposer e.svc.id e.day t) t).line = lineCore t.line :=
    lineCore_foldl _ fun t e => by simp
  simp [timetableTick, htell]

@[simp] theorem lineCore_settleOldDay (old : Nat) (s : State) : lineCore (settleOldDay old s).line = lineCore s.line := by
  simp [settleOldDay]

@[simp] theorem dropPastStanding_line (s : State) : (dropPastStanding s).line = s.line := by
  unfold dropPastStanding
  split
  · split <;> rfl
  · rfl

@[simp] theorem lineCore_chooseBank (s : State) : lineCore (chooseBank s).line = lineCore s.line := by
  simp [chooseBank]

@[simp] theorem buildRunning_line (s : State) : (buildRunning s).line = s.line := rfl

@[simp] theorem lineCore_timetableDayEnd (old : Nat) (s : State) : lineCore (timetableDayEnd old s).line = lineCore s.line := by
  simp [timetableDayEnd]

@[simp] theorem timetableRestart_line (s : State) : (timetableRestart s).line = s.line := rfl

/-! ### The condition unit (R20, R193 to R202) -/

@[simp] theorem lineCore_reportDue (s : State) : lineCore (reportDue s).line = lineCore s.line := by
  have hexpires : lineCore (reportExpires s).line = lineCore s.line := by
    unfold reportExpires
    split <;> simp
  simp [reportDue, hexpires]

@[simp] theorem lineCore_reportTick (s : State) : lineCore (reportTick s).line = lineCore s.line := by
  unfold reportTick
  split <;> simp

@[simp] theorem lineCore_takeFlags (body : List Byte) (s : State) : lineCore (takeFlags body s).line = lineCore s.line := by
  unfold takeFlags
  split
  · split <;> simp
  · rfl

@[simp] theorem takeNoticeClear_line (body : List Byte) (s : State) : (takeNoticeClear body s).line = s.line := by
  unfold takeNoticeClear
  split <;> rfl

@[simp] theorem lineCore_takeNoticeMask (body : List Byte) (s : State) :
    lineCore (takeNoticeMask body s).line = lineCore s.line := by
  unfold takeNoticeMask
  split
  · split <;> simp
  · rfl

@[simp] theorem takeFaultClear_line (body : List Byte) (s : State) : (takeFaultClear body s).line = s.line := by
  unfold takeFaultClear
  split <;> rfl

@[simp] theorem lineCore_clearCounters (s : State) : lineCore (clearCounters s).line = lineCore s.line := rfl

@[simp] theorem lineCore_pollReport (d : Dest) (s : State) : lineCore (pollReport d s).line = lineCore s.line := by
  cases d
  · exact lineCore_report _ s
  · rfl

@[simp] theorem lineCore_takeStatusPoll (d : Dest) (body : List Byte) (s : State) :
    lineCore (takeStatusPoll d body s).line = lineCore s.line := by
  unfold takeStatusPoll
  split <;> simp

/-! ### The clock and the cadence (R38 to R56) -/

@[simp] theorem lineCore_doAction (position : Nat) (a : CadenceAction) (s : State) :
    lineCore (doAction position a s).line = lineCore s.line := by
  have hfault : lineCore (cadenceFault position s).line = lineCore s.line := lineCore_captureFault _ s
  cases a with
  | flagsSet f => exact lineCore_setCtrl _ s
  | flagsClear f => exact lineCore_setCtrl _ s
  | panelMode p m => simp [doAction, hfault]
  | windowShow n =>
    dsimp only [doAction]
    split <;> simp [hfault]
  | windowHide n =>
    dsimp only [doAction]
    split <;> simp [hfault]
  | sendReport => exact lineCore_report _ s

theorem lineCore_runEntries (es : List CadenceEntry) :
    ∀ (i : Nat) (s : State), lineCore (runEntries i es s).line = lineCore s.line := by
  induction es with
  | nil => exact fun i s => rfl
  | cons e es ih => exact fun i s => by simp [runEntries, ih]

@[simp] theorem lineCore_cadenceTick (s : State) : lineCore (cadenceTick s).line = lineCore s.line := by
  simp [cadenceTick, lineCore_runEntries]

/-- R39, R40: no work of a minute tick or of a day end reaches the core of the line. -/
theorem lineCore_doWork (w : Work) (s : State) : lineCore (doWork w s).line = lineCore s.line := by
  cases w <;> simp [doWork]

@[simp] theorem lineCore_interleave (fuel : Nat) (owners : List (List Work)) (s : State) :
    lineCore (interleave doWork fuel owners s).line = lineCore s.line :=
  interleave_keeps doWork (fun t => lineCore t.line = lineCore s.line) (fun _ h => h) fuel owners s
    (fun _ _ w _ t h => (lineCore_doWork w t).trans h) rfl

@[simp] theorem lineCore_minuteTick (s : State) : lineCore (minuteTick s).line = lineCore s.line :=
  lineCore_interleave 6 tickWorks s

@[simp] theorem lineCore_catchUp (n : Nat) : ∀ s : State, lineCore (catchUp n s).line = lineCore s.line := by
  induction n with
  | zero => exact fun s => rfl
  | succ n ih => exact fun s => by simp [catchUp, ih]

@[simp] theorem lineCore_takeChecked (d : Dest) (f : Option ClockFields) (s : State) :
    lineCore (takeChecked d f s).line = lineCore s.line := by
  cases f with
  | none => exact lineCore_answer _ _ _ _ s
  | some f => simp [takeChecked, takeSet, answerSet, startClock, setLaterDay, jumpClock, takeTime, beginDay, beginMove]

@[simp] theorem lineCore_takeWaiting (ws : List (Dest × Option ClockFields)) :
    ∀ s : State, lineCore (takeWaiting ws s).line = lineCore s.line := by
  induction ws with
  | nil => exact fun s => rfl
  | cons w ws ih => exact fun s => by simp [takeWaiting, ih]

@[simp] theorem lineCore_goOn (s : State) : lineCore (goOn s).line = lineCore s.line := by
  unfold goOn
  split
  · rfl
  · simp [makeTicks, answerSet]

@[simp] theorem lineCore_takeClockSet (d : Dest) (body : List Byte) (s : State) :
    lineCore (takeClockSet d body s).line = lineCore s.line := by
  simp [takeClockSet]

/-! ### Loads and settings (R23 to R35) -/

@[simp] theorem refDrawn_line (body : List Byte) (s : State) : (refDrawn body s).line = s.line := by
  unfold refDrawn
  split <;> rfl

@[simp] theorem lineCore_takeLoadBegin (d : Dest) (body : List Byte) (s : State) :
    lineCore (takeLoadBegin d body s).line = lineCore s.line := by
  unfold takeLoadBegin
  split <;> simp

@[simp] theorem takeLoadSegment_line (body : List Byte) (s : State) : (takeLoadSegment body s).line = s.line := by
  unfold takeLoadSegment
  split
  · split
    · rfl
    · split
      · rfl
      · split <;> rfl
  · rfl

@[simp] theorem lineCore_requoteSale (s : State) : lineCore (requoteSale s).line = lineCore s.line := by
  simp [requoteSale]

@[simp] theorem lineCore_commitFares (version : Nat) (rs : List RawFare) (s : State) :
    lineCore (commitFares version rs s).1.line = lineCore s.line := by
  unfold commitFares
  split <;> simp

@[simp] theorem commitCadence_line (version : Nat) (rs : List RawCadence) (s : State) :
    (commitCadence version rs s).1.line = s.line := by
  unfold commitCadence
  split <;> rfl

@[simp] theorem lineCore_commitLoad (k : TableKind) (a : Staging) (data : List (List Byte)) (s : State) :
    lineCore (commitLoad k a data s).1.line = lineCore s.line := by
  unfold commitLoad
  cases k
  all_goals
    dsimp only
    split <;> simp

@[simp] theorem lineCore_endLoad (k : TableKind) (version : Nat) (s : State) :
    lineCore (endLoad k version s).1.line = lineCore s.line := by
  unfold endLoad
  split
  · rfl
  · split
    · rfl
    · split <;> simp

@[simp] theorem lineCore_takeLoadEnd (d : Dest) (body : List Byte) (s : State) :
    lineCore (takeLoadEnd d body s).line = lineCore s.line := by
  unfold takeLoadEnd
  split
  · split <;> simp
  · simp

/-- R34: a changed setting reaches the core of the line only through the link-silence timer. -/
theorem lineCore_settingChanged (id : Nat) (s : State) (h : id = 1 → linkDue s = s) :
    lineCore (settingChanged id s).line = lineCore s.line := by
  unfold settingChanged
  split
  · rw [h rfl]
  all_goals simp [ackDue, ackExpires, inactivityDue, inactivityExpires]

/-- Table 2-7: the link silence is at least one minute, so a timer short of 60 seconds has not reached it. -/
theorem linkDue_of_short (s : State) (hmin : 1 ≤ s.settings.linkSilence) (h : reached s.line.linkTimer 60 = false) :
    linkDue s = s := by
  have hnot : reached s.line.linkTimer (s.settings.linkSilence * 60) = false := by
    cases ht : s.line.linkTimer with
    | none => rfl
    | some n =>
      have hn : ¬ 60 ≤ n := by simpa [reached, ht] using h
      simp only [reached, decide_eq_false_iff_not]
      omega
  simp [linkDue, hnot]

theorem lineCore_setSetting (id v : Nat) (range : Nat × Nat) (s : State) (hr : settingRange id = some range)
    (h : reached s.line.linkTimer 60 = false) : lineCore (setSetting id v range s).1.line = lineCore s.line := by
  have hdue : id = 1 → linkDue { s with settings := putSetting id (clampTo range v) s.settings }
      = { s with settings := putSetting id (clampTo range v) s.settings } := by
    rintro rfl
    obtain rfl : (1, 30) = range := Option.some.inj hr
    exact linkDue_of_short _ (le_max_left _ _) h
  unfold setSetting
  dsimp only
  split
  · rfl
  · simp [lineCore_settingChanged _ _ hdue]

theorem lineCore_takeSetting (d : Dest) (body : List Byte) (s : State) (h : reached s.line.linkTimer 60 = false) :
    lineCore (takeSetting d body s).line = lineCore s.line := by
  unfold takeSetting
  split
  · split
    · next hr => simp [lineCore_setSetting _ _ _ s hr h]
    · simp
  · simp
  · simp

/-! ### The line restart (R18) -/

@[simp] theorem lineCore_lineRestart (s : State) : lineCore (lineRestart s).line = lineCore s.line := rfl

@[simp] theorem saleRestart_line (s : State) : (saleRestart s).line = s.line := by
  unfold saleRestart
  split <;> rfl

@[simp] theorem lineCore_takeRestart (body : List Byte) (s : State) : lineCore (takeRestart body s).line = lineCore s.line := by
  unfold takeRestart
  split
  · simp [restartAll, conditionRestart, loaderRestart]
  · rfl

/-! ### Consumed frames -/

/-- R15, Table 12-2: a consumed frame of any kind leaves the core of the line as it is, while the link-silence timer has measured less
than the shortest link silence of Table 2-7. -/
theorem lineCore_consume (kind : Byte) (d : Dest) (body : List Byte) (s : State) (h : reached s.line.linkTimer 60 = false) :
    lineCore (consume kind d body s).line = lineCore s.line := by
  unfold consume
  split <;> simp [lineCore_takeSetting _ _ _ h]

end Sys2Proof.Proofs
end

section
/-! PROOFS. The halt line (chapter 1): the frame check with the link-silence timer (R6, R17), and the inbound merge (R13, R14). -/

namespace Sys2Proof.Proofs

open Sys2Proof Sys2Proof.Machine Sys2Proof.Laws

/-! ### What the line's commands are, with power -/

theorem exec_uplineFrame (chars : List Byte) (s : State) (hp : s.powered = true) :
    exec (.uplineFrame chars) s = .next (uplineFrameEnds chars s) := by
  simp [exec, execUplineFrame, whenPowered, hp]

theorem exec_downlineFrame (chars : List Byte) (s : State) (hp : s.powered = true) :
    exec (.downlineFrame chars) s = .next (downlineFrameEnds chars s) := by
  simp [exec, execDownlineFrame, whenPowered, hp]

theorem exec_inboundMerge (s : State) (hp : s.powered = true) : exec .inboundMerge s = .next (merge s) := by
  simp [exec, execInboundMerge, whenPowered, hp]

/-! ### A frame at a ready port (R6) -/

theorem frameGood_eq_false {dir : FrameDir} {chars : List Byte} (h : ¬ ValidFrame dir chars) : frameGood dir chars = false :=
  Bool.eq_false_iff.2 fun hg => h ((frameGood_iff_validFrame dir chars).1 hg)

theorem uplineFrameEnds_of_not_valid {chars : List Byte} {s : State} (hr : s.line.upReady = true)
    (h : ¬ ValidFrame .outbound chars) : uplineFrameEnds chars s = countBad s := by
  simp [uplineFrameEnds, hr, frameGood_eq_false h]

theorem uplineFrameEnds_of_valid {chars : List Byte} {s : State} (hr : s.line.upReady = true)
    (h : ValidFrame .outbound chars) : uplineFrameEnds chars s = filterFrame chars (linkHeard s) := by
  simp [uplineFrameEnds, hr, (frameGood_iff_validFrame .outbound chars).2 h]

theorem downlineFrameEnds_of_not_valid {chars : List Byte} {s : State} (hr : s.line.downReady = true)
    (he : s.line.straps.endOfChain = false) (h : ¬ ValidFrame .inbound chars) : downlineFrameEnds chars s = countBad s := by
  simp [downlineFrameEnds, hr, he, frameGood_eq_false h]

/-! ### The link-silence timer (R17) -/

/-- R17: the link-silence timer has just been restarted, and LINK_LOST is absent. -/
def LinkFresh (s : State) : Prop := s.line.linkTimer = some 0 ∧ s.line.linkLost = false

theorem linkHeard_fresh (s : State) : LinkFresh (linkHeard s) := by
  unfold linkHeard LinkFresh
  split
  · exact ⟨rfl, linkLost_of_lineCore (lineCore_raiseNotice .linkRestored _)⟩
  · next h => exact ⟨rfl, Bool.eq_false_iff.2 h⟩

theorem offerOutbound_fresh (chars : List Byte) (s : State) (h : LinkFresh s) : LinkFresh (offerOutbound chars s) := by
  unfold offerOutbound
  split <;> exact h

/-- No command that a consumed frame is stops or advances a timer just restarted: only a SETTING of the link silence compares it, and with
a minute or more. -/
theorem consume_fresh (kind : Byte) (d : Dest) (body : List Byte) (s : State) (h : LinkFresh s) : LinkFresh (consume kind d body s) := by
  obtain ⟨htimer, hlost⟩ := h
  have hcore := lineCore_consume kind d body s (by rw [htimer]; rfl)
  exact ⟨(linkTimer_of_lineCore hcore).trans htimer, (linkLost_of_lineCore hcore).trans hlost⟩

/-- Table 1-1: forwarded, consumed or both, the frame leaves the timer as the port has set it. -/
theorem filterFrame_fresh (chars : List Byte) (s : State) (h : LinkFresh s) : LinkFresh (filterFrame chars s) := by
  have hforward : LinkFresh (if forwards s (frameHalt chars) then offerOutbound chars s else s) := by
    split
    · exact offerOutbound_fresh chars s h
    · exact h
  unfold filterFrame
  dsimp only
  split
  · exact consume_fresh _ _ _ _ hforward
  · exact hforward

/-- Settles O9: a frame that fails the check is only counted; a valid one restarts the timer, which its address and kind then leave. -/
theorem frameCheck : Obligations.FrameCheck := by
  intro s chars hp
  refine ⟨fun hr hbad => ?_, fun hr he hbad => ?_, fun hr hgood => ?_⟩
  · rw [exec_uplineFrame chars s hp, uplineFrameEnds_of_not_valid hr hbad]
    rfl
  · rw [exec_downlineFrame chars s hp, downlineFrameEnds_of_not_valid hr he hbad]
    rfl
  · obtain ⟨htimer, hlost⟩ := filterFrame_fresh chars _ (linkHeard_fresh s)
    exact ⟨_, by rw [exec_uplineFrame chars s hp, uplineFrameEnds_of_valid hr hgood], htimer, hlost⟩

/-! ### The inbound merge (R13, R14) -/

theorem merge_of_sending {s : State} {f : UpFrame} (h : s.line.upTx = .sending f) : merge s = s := by
  simp [merge, h]

theorem merge_of_not_sending {s : State} (h : ∀ f, s.line.upTx ≠ .sending f) : merge s = mergeChoice s := by
  unfold merge
  split
  · next f hf => exact absurd hf (h f)
  · rfl
  · rfl

/-- Settles O13: nothing while a frame is being sent; otherwise one case for each row of Table 1-2. -/
theorem inboundMergeChoice : Obligations.InboundMergeChoice := by
  intro s hp
  refine ⟨fun f hf => ?_, fun hidle => ?_⟩
  · rw [exec_inboundMerge s hp, merge_of_sending hf]
  · rw [exec_inboundMerge s hp, merge_of_not_sending hidle]
    congr 1
    cases htransit : s.line.inboundQ <;> cases hown : s.line.ownQ
    case nil.nil => simp [mergeChoice, sendOwn, htransit, hown]
    case nil.cons => simp [mergeChoice, sendOwn, htransit, hown]
    case cons.nil => simp [mergeChoice, sendTransit, htransit, hown]
    case cons.cons => simp [mergeChoice, sendTransit, sendOwn, effectiveShare, htransit, hown]

end Sys2Proof.Proofs
end

section
/-! PROOFS. The loader (chapter 2): the segments of an open load (R25, R26) and its end (R27). -/

namespace Sys2Proof.Proofs

open Sys2Proof Sys2Proof.Machine Sys2Proof.Laws

/-! ### What the loader's commands are, with power -/

theorem exec_loadSegment (d : Dest) (body : List Byte) (s : State) (hp : s.powered = true) :
    exec (.loadSegment d body) s = .next (takeLoadSegment body s) := by
  simp [exec, execLoadSegment, whenPowered, hp]

theorem exec_loadSilenceExpiry (kind : TableKind) (s : State) (hp : s.powered = true) :
    exec (.loadSilenceExpiry kind) s = .next (silenceExpires kind s) := by
  simp [exec, execLoadSilenceExpiry, whenPowered, hp]

theorem exec_loadEnd (d : Dest) (body : List Byte) (s : State) (hp : s.powered = true) :
    exec (.loadEnd d body) s = .next (takeLoadEnd d body s) := by
  simp [exec, execLoadEnd, whenPowered, hp]

/-! ### Segments received and missing -/

section Segments

variable {α : Type}

@[simp] theorem allSome_cons_none (os : List (Option α)) : allSome (none :: os) = none := by simp [allSome]

@[simp] theorem allSome_cons_some (x : α) (os : List (Option α)) :
    allSome (some x :: os) = (allSome os).map (x :: ·) := by
  cases h : allSome os <;> simp [allSome, h]

/-- A list of segments is not whole exactly when one of them has not been received. -/
theorem allSome_eq_none_iff (l : List (Option α)) : allSome l = none ↔ none ∈ l := by
  induction l with
  | nil => simp [allSome]
  | cons o os ih => cases o <;> simp [ih]

@[simp] theorem allSome_map_some (l : List α) : allSome (l.map some) = some l := by
  induction l with
  | nil => rfl
  | cons x xs ih => simp [ih]

/-- The positions of `none` in a list are as many as its `none` entries. -/
theorem length_positions_none [DecidableEq α] (l : List (Option α)) :
    ((List.range l.length).filter fun i => decide (l[i]? = some none)).length = (l.filter Option.isNone).length := by
  induction l with
  | nil => rfl
  | cons o os ih =>
    have hshift : ((fun i => decide ((o :: os)[i]? = some none)) ∘ Nat.succ) = fun i => decide (os[i]? = some none) := rfl
    rw [List.length_cons, List.range_succ_eq_map, List.filter_cons, List.filter_map, hshift]
    cases o <;> simp [ih]

end Segments

theorem length_missingIndices (a : Staging) : (missingIndices a).length = (a.segments.filter Option.isNone).length :=
  length_positions_none a.segments

/-! ### LOAD SEGMENT (R25, Table 2-2) -/

section LoadSegment

variable {kind : TableKind} {a : Staging} {k v1 v0 i : Byte} {data : List Byte} {s : State}

theorem takeLoadSegment_unknown_kind (hk : kindOfByte k = none) : takeLoadSegment (k :: v1 :: v0 :: i :: data) s = s := by
  simp [takeLoadSegment, hk]

theorem takeLoadSegment_no_load (hk : kindOfByte k = some kind) (hs : staging s kind = none) :
    takeLoadSegment (k :: v1 :: v0 :: i :: data) s = s := by
  simp [takeLoadSegment, hk, hs]

theorem takeLoadSegment_stored (hk : kindOfByte k = some kind) (hs : staging s kind = some a)
    (hv : a.version = beNat [v1, v0]) (hi : i.toNat < a.segments.length) :
    takeLoadSegment (k :: v1 :: v0 :: i :: data) s = setStaging kind (some (storeSegment i.toNat data a)) s := by
  simp [takeLoadSegment, hk, hs, hv, hi]

theorem takeLoadSegment_discarded (hk : kindOfByte k = some kind) (hs : staging s kind = some a)
    (h : ¬ (a.version = beNat [v1, v0] ∧ i.toNat < a.segments.length)) :
    takeLoadSegment (k :: v1 :: v0 :: i :: data) s = s := by
  simp only [takeLoadSegment, hk, hs, if_neg h]

end LoadSegment

/-- Settles O19: the rows of Table 2-2, by the kind, the staging area, the version and the index. -/
theorem loadSegmentStored : Obligations.LoadSegmentStored := by
  intro d k v1 v0 i data s hp
  refine ⟨fun hk => ?_, fun kind hk => ?_, fun kind => exec_loadSilenceExpiry kind s hp⟩
  · rw [exec_loadSegment d _ s hp, takeLoadSegment_unknown_kind hk]
  · rw [exec_loadSegment d _ s hp]
    congr 1
    cases hs : staging s kind with
    | none => exact takeLoadSegment_no_load hk hs
    | some a =>
      dsimp only
      split_ifs with hversion hindex
      · exact takeLoadSegment_discarded hk hs fun h => hversion h.1
      · exact takeLoadSegment_discarded hk hs fun h => hindex.not_gt h.2
      · exact takeLoadSegment_stored hk hs (not_not.1 hversion) (not_le.1 hindex)

/-! ### LOAD END (R27) -/

section LoadEnd

variable {kind : TableKind} {version : Nat} {a : Staging} {s : State}

theorem endLoad_no_load (hs : staging s kind = none) : endLoad kind version s = (s, .noLoad) := by
  simp [endLoad, hs]

theorem endLoad_other_version (hs : staging s kind = some a) (hv : a.version ≠ version) :
    endLoad kind version s = (s, .noLoad) := by
  simp [endLoad, hs, hv]

theorem endLoad_missing (hs : staging s kind = some a) (hv : a.version = version) (hm : none ∈ a.segments) :
    endLoad kind version s =
      (setStaging kind (some { a with silence := 0 }) s,
        .missing (a.segments.filter Option.isNone).length ((missingIndices a).take 16)) := by
  simp [endLoad, hs, hv, (allSome_eq_none_iff a.segments).2 hm, length_missingIndices]

theorem endLoad_whole {data : List (List Byte)} (hs : staging s kind = some a) (hv : a.version = version)
    (hdata : a.segments = data.map some) : endLoad kind version s = commitLoad kind a data (setStaging kind none s) := by
  simp [endLoad, hs, hv, hdata]

variable {d : Dest} {k v1 v0 : Byte}

theorem takeLoadEnd_unknown_kind (hk : kindOfByte k = none) :
    takeLoadEnd d [k, v1, v0] s = answer d 0x03 (.refused .kind) [k, v1, v0] s := by
  simp [takeLoadEnd, hk]

/-- R27, R32: the outcome of the comparison is the ANSWER. -/
theorem takeLoadEnd_known_kind (hk : kindOfByte k = some kind) :
    takeLoadEnd d [k, v1, v0] s =
      answer d 0x03 (endLoad kind (beNat [v1, v0]) s).2 [k, v1, v0] (endLoad kind (beNat [v1, v0]) s).1 := by
  simp [takeLoadEnd, hk]

end LoadEnd

/-- Settles O20: one case for each outcome of the comparison of R27. -/
theorem loadEndCompared : Obligations.LoadEndCompared := by
  intro d k v1 v0 s hp
  rw [exec_loadEnd d _ s hp]
  refine ⟨fun hk => ?_, fun kind hk => ⟨fun hs => ?_, fun a hs => ⟨fun hv => ?_, fun hv hm => ?_, fun data hv hdata => ?_⟩⟩⟩
  · rw [takeLoadEnd_unknown_kind hk]
  · rw [takeLoadEnd_known_kind hk, endLoad_no_load hs]
  · rw [takeLoadEnd_known_kind hk, endLoad_other_version hs hv]
  · rw [takeLoadEnd_known_kind hk, endLoad_missing hs hv hm, missingIndices]
  · rw [takeLoadEnd_known_kind hk, endLoad_whole hs hv hdata]

end Sys2Proof.Proofs
end

section
/-! PROOFS. The cells of a body (R84, R204): which bytes are no cells, and what the cells of the others hold. -/

namespace Sys2Proof.Proofs

open Sys2Proof Sys2Proof.Machine

/-- Table 12-3: how a cell is drawn, by its second byte when that is allowed. -/
def attrShown : Nat → CellAttr
  | 0 => .normal
  | 1 => .inverse
  | _ => .flash

/-- R84, R204: the second bytes that a cell may have, each with its meaning. -/
theorem cellAttrOfByte_eq (a : Byte) : cellAttrOfByte a = if a.toNat ≤ 2 then some (attrShown a.toNat) else none := by
  unfold cellAttrOfByte
  split
  case h_4 hnormal hinverse hflash =>
    have h0 : a.toNat ≠ 0 := hnormal
    have h1 : a.toNat ≠ 1 := hinverse
    have h2 : a.toNat ≠ 2 := hflash
    exact (if_neg (by omega)).symm
  all_goals next h => rw [h]; rfl

/-- R84: two bytes that make no cell. -/
def BadCell (c a : Byte) : Prop :=
  ¬ ((32 ≤ c.toNat ∧ c.toNat ≤ 126) ∨ (128 ≤ c.toNat ∧ c.toNat ≤ 143)) ∨ 2 < a.toNat

theorem cellOf_of_bad {c a : Byte} (h : BadCell c a) : cellOf c a = none := by
  rcases h with hcode | hattr
  · have hnot : codeAllowed c.toNat = false := decide_eq_false hcode
    unfold cellOf
    split <;> simp [hnot]
  · simp [cellOf, cellAttrOfByte_eq, Nat.not_le.2 hattr]

theorem cellOf_of_not_bad {c a : Byte} (h : ¬ BadCell c a) : cellOf c a = some ⟨c.toNat, attrShown a.toNat⟩ := by
  obtain ⟨hcode, hattr⟩ := not_or.1 h
  have hallowed : codeAllowed c.toNat = true := decide_eq_true (not_not.1 hcode)
  simp [cellOf, cellAttrOfByte_eq, Nat.not_lt.1 hattr, hallowed]

theorem cellOf_eq_none_iff (c a : Byte) : cellOf c a = none ↔ BadCell c a :=
  ⟨fun hnone => by_contra fun h => by simp [cellOf_of_not_bad h] at hnone, cellOf_of_bad⟩

theorem cellOf_eq_some {c a : Byte} {x : Cell} (h : cellOf c a = some x) : x = ⟨c.toNat, attrShown a.toNat⟩ := by
  have hgood : ¬ BadCell c a := fun hbad => by simp [cellOf_of_bad hbad] at h
  exact Option.some.inj (h.symm.trans (cellOf_of_not_bad hgood))

theorem cellsOf_cons_cons (c a : Byte) (rest : List Byte) :
    cellsOf (c :: a :: rest) = (cellOf c a).bind fun x => (cellsOf rest).map (x :: ·) := by
  rw [cellsOf]
  cases cellOf c a <;> cases cellsOf rest <;> rfl

/-- `BadCells` asks of each cell what `BadCell` does: of the first, or of the others. -/
theorem badCells_cons_cons (c a : Byte) (rest : List Byte) : BadCells (c :: a :: rest) ↔ BadCell c a ∨ BadCells rest := by
  constructor
  · rintro ⟨i, hi, hbad⟩
    cases i with
    | zero => exact .inl hbad
    | succ i => exact .inr ⟨i, by simp only [List.length_cons] at hi; omega, hbad⟩
  · rintro (hbad | ⟨i, hi, hbad⟩)
    · exact ⟨0, by simp, hbad⟩
    · exact ⟨i + 1, by simp only [List.length_cons]; omega, hbad⟩

/-- R84, R204: whole cells of two bytes are refused exactly where one of them is not allowed. -/
theorem cellsOf_eq_none_iff (cells : List Byte) (heven : 2 ∣ cells.length) : cellsOf cells = none ↔ BadCells cells := by
  induction cells using List.twoStepInduction with
  | nil => simp [cellsOf, BadCells]
  | singleton => simp at heven
  | cons_cons c a rest ih =>
    have hrest := ih (by simpa [Nat.dvd_add_left] using heven)
    rw [badCells_cons_cons, ← hrest, ← cellOf_eq_none_iff, cellsOf_cons_cons]
    cases cellOf c a <;> simp

/-- R204: the cells of a body are half as many as its bytes, each read of its own two. -/
theorem cellsOf_eq_some {cells : List Byte} {row : List Cell} (h : cellsOf cells = some row) :
    2 * row.length = cells.length ∧ ∀ i, i < row.length →
      row[i]? = some ⟨(cells.getD (2 * i) 0).toNat, attrShown (cells.getD (2 * i + 1) 0).toNat⟩ := by
  induction cells using List.twoStepInduction generalizing row with
  | nil =>
    obtain rfl : [] = row := by simpa [cellsOf] using h
    simp
  | singleton => simp [cellsOf] at h
  | cons_cons c a rest ih =>
    obtain ⟨x, hx, xs, hxs, rfl⟩ : ∃ x, cellOf c a = some x ∧ ∃ xs, cellsOf rest = some xs ∧ x :: xs = row := by
      simpa [cellsOf_cons_cons, Option.bind_eq_some_iff] using h
    obtain ⟨hlength, hcells⟩ := ih hxs
    refine ⟨by simp only [List.length_cons]; omega, fun i hi => ?_⟩
    cases i with
    | zero => exact congrArg some (cellOf_eq_some hx)
    | succ i => exact hcells i (Nat.lt_of_succ_lt_succ hi)

end Sys2Proof.Proofs
end

section
/-! PROOFS. Send marks (R85): what marks panel rows and changes nothing else, one operation after another. -/

namespace Sys2Proof.Proofs

open Sys2Proof Sys2Proof.Machine Sys2Proof.Laws

/-- `t` is `s` but that the panel rows of `touched` have a send mark. -/
structure PanelsMarked (s t : State) (touched : Nat → Nat → Prop) : Prop where
  frame : t = { s with panels := { s.panels with recs := t.panels.recs } }
  marks : ∀ p rec, panelRec s p = some rec → ∃ rec', panelRec t p = some rec' ∧ rec' = { rec with marks := rec'.marks }
    ∧ rec'.marks.length = rec.marks.length
    ∧ ∀ i, i < rec.marks.length → (rec'.marks[i]? = some true ↔ rec.marks[i]? = some true ∨ touched p i)

theorem PanelsMarked.refl (s : State) : PanelsMarked s s fun _ _ => False :=
  ⟨rfl, fun _ rec h => ⟨rec, h, rfl, rfl, fun _ _ => by simp⟩⟩

theorem PanelsMarked.trans {s t u : State} {f g : Nat → Nat → Prop} (hst : PanelsMarked s t f) (htu : PanelsMarked t u g) :
    PanelsMarked s u fun p i => f p i ∨ g p i := by
  refine ⟨by rw [htu.frame, hst.frame], fun p rec h => ?_⟩
  obtain ⟨rec₁, h₁, hrec₁, hlength₁, hmarks₁⟩ := hst.marks p rec h
  obtain ⟨rec₂, h₂, hrec₂, hlength₂, hmarks₂⟩ := htu.marks p rec₁ h₁
  refine ⟨rec₂, h₂, by rw [hrec₂, hrec₁], hlength₂.trans hlength₁, fun i hi => ?_⟩
  rw [hmarks₂ i (by omega), hmarks₁ i hi, or_assoc]

/-- The touched panel rows, said another way. -/
theorem PanelsMarked.congr {s t : State} {f g : Nat → Nat → Prop} (h : PanelsMarked s t f) (hfg : ∀ p i, f p i ↔ g p i) :
    PanelsMarked s t g := by
  obtain rfl : f = g := funext₂ fun p i => propext (hfg p i)
  exact h

/-- A list of operations, each of which marks panel rows of its own. -/
theorem panelsMarked_foldl {β : Type} {f : State → β → State} {touched : β → Nat → Nat → Prop}
    (hf : ∀ s b, PanelsMarked s (f s b) (touched b)) (l : List β) (s : State) :
    PanelsMarked s (l.foldl f s) fun p i => ∃ b ∈ l, touched b p i := by
  induction l generalizing s with
  | nil => exact (PanelsMarked.refl s).congr (by simp)
  | cons b l ih => exact ((hf s b).trans (ih (f s b))).congr (by simp)

/-- The record of a panel after that of panel `p` is changed. -/
theorem panelRec_updPanel (p q : Nat) (f : PanelRec → PanelRec) (s : State) :
    panelRec (updPanel p f s) q = (panelRec s q).map fun rec => if p = q then f rec else rec := by
  by_cases hq : q = 0
  · simp [panelRec, hq]
  · by_cases hp : p = 0
    · have hpq : p ≠ q := by omega
      simp [updPanel, hp, hp ▸ hpq]
    · have hplace : p - 1 = q - 1 ↔ p = q := by omega
      simp only [updPanel, panelRec, if_neg hp, if_neg hq, List.getElem?_modify, hplace]
      split <;> simp

/-- R85: one panel row takes a send mark. -/
theorem panelsMarked_markPanelRow (p row : Nat) (s : State) :
    PanelsMarked s (markPanelRow p row s) fun q i => p = q ∧ i = row := by
  refine ⟨by unfold markPanelRow updPanel; split <;> rfl, fun q rec h => ?_⟩
  by_cases hpq : p = q
  · refine ⟨{ rec with marks := rec.marks.set row true }, by simp [markPanelRow, panelRec_updPanel, h, hpq], rfl,
      List.length_set, fun i hi => ?_⟩
    by_cases hrow : row = i
    · simp [hpq, hrow, hi]
    · simp [hrow, Ne.symm hrow]
  · exact ⟨rec, by simp [markPanelRow, panelRec_updPanel, h, hpq], rfl, rfl, fun i _ => by simp [hpq]⟩

/-- R85: the panel rows that show a store row, each through a shown window, take a send mark. -/
theorem panelsMarked_markShowing (r : Nat) (s : State) : PanelsMarked s (markShowing r s) fun p i => ShowsRow s p i r := by
  have hmarks : ∀ (t : State) (w : Window),
      PanelsMarked t (if w.shown && coversStore w r then markPanelRow w.panel (w.first + (r - w.base)) t else t)
        fun p i => (w.shown && coversStore w r) = true ∧ w.panel = p ∧ i = w.first + (r - w.base) := by
    intro t w
    split
    · next hshows => exact (panelsMarked_markPanelRow _ _ t).congr fun p i => by simp [hshows]
    · next hnot => exact (PanelsMarked.refl t).congr fun p i => ⟨False.elim, fun h => hnot h.1⟩
  refine (panelsMarked_foldl hmarks s.board.windows s).congr fun p i => exists_congr fun w => ?_
  simp only [coversStore, Bool.and_eq_true, decide_eq_true_eq]
  tauto

/-! ### The row store (R84, R85) -/

theorem markShowing_board (r : Nat) (s : State) : (markShowing r s).board = s.board := by
  rw [(panelsMarked_markShowing r s).frame]

theorem writeRow_of_identical {r : Nat} {row : Row} {s : State} (h : storeRow s r = row) : writeRow r row s = s := if_pos h

theorem writeRow_of_changed {r : Nat} {row : Row} {s : State} (h : storeRow s r ≠ row) :
    writeRow r row s
      = markShowing r { s with board := { s.board with store := Memory.write spaces r row s.board.store } } := if_neg h

/-- R85: the write itself leaves the panel rows to the marks that follow it. -/
theorem panelsMarked_writeRow {r : Nat} {row : Row} {s : State} (h : storeRow s r ≠ row) :
    PanelsMarked { s with board := { s.board with store := Memory.write spaces r row s.board.store } } (writeRow r row s)
      fun p i => ShowsRow s p i r := by
  rw [writeRow_of_changed h]
  exact panelsMarked_markShowing r _

theorem storeRow_writeRow_same (r : Nat) (row : Row) (s : State) (hwf : Memory.wf spaces s.board.store = true) :
    storeRow (writeRow r row s) r = row := by
  by_cases h : storeRow s r = row
  · rw [writeRow_of_identical h, h]
  · rw [writeRow_of_changed h, storeRow, markShowing_board]
    exact memory_read_write_same r row s.board.store hwf

theorem storeRow_writeRow_other {r q : Nat} (row : Row) (s : State) (hq : q ≠ r) :
    storeRow (writeRow r row s) q = storeRow s q := by
  by_cases h : storeRow s r = row
  · rw [writeRow_of_identical h]
  · rw [writeRow_of_changed h, storeRow, markShowing_board]
    exact memory_read_write_other r q row s.board.store hq

/-- R85: a write reaches the store and the panel records, and nothing else. -/
theorem writeRow_frame (r : Nat) (row : Row) (s : State) :
    writeRow r row s = { s with
      board := { s.board with store := (writeRow r row s).board.store }
      panels := { s.panels with recs := (writeRow r row s).panels.recs } } := by
  by_cases h : storeRow s r = row
  · rw [writeRow_of_identical h]
  · have hframe := (panelsMarked_writeRow h).frame
    generalize writeRow r row s = t at hframe ⊢
    rw [hframe]

end Sys2Proof.Proofs
end

section
/-! PROOFS. ROW WRITE (R90). -/

namespace Sys2Proof.Proofs

open Sys2Proof Sys2Proof.Machine Sys2Proof.Laws

theorem exec_rowWrite (d : Dest) (body : List Byte) (s : State) (hp : s.powered = true) :
    exec (.rowWrite d body) s = .next (takeRowWrite d body s) := by
  simp [exec, execRowWrite, whenPowered, hp]

theorem takeRowWrite_wrong_length {d : Dest} {body : List Byte} {s : State} (h : body.length ≠ 82) :
    takeRowWrite d body s = answer d 0x07 (.refused .field) noRef s := by
  match body with
  | [] => rfl
  | [_] => rfl
  | r1 :: r0 :: cells => exact if_neg fun hcells => h (by simp [hcells])

/-- R90, R32: the outcome of the row and its cells is the ANSWER. -/
theorem takeRowWrite_whole {d : Dest} {r1 r0 : Byte} {cells : List Byte} {s : State} (h : cells.length = 80) :
    takeRowWrite d (r1 :: r0 :: cells) s
      = answer d 0x07 (officeRow (beNat [r1, r0]) cells s).2 noRef (officeRow (beNat [r1, r0]) cells s).1 := if_pos h

section OfficeRow

variable {r : Nat} {cells : List Byte} {row : Row} {s : State}

/-- R90: a LIVE window, shown or hidden, has the store row. -/
def InLiveWindow (s : State) (r : Nat) : Prop :=
  ∃ w ∈ s.board.windows, w.live.isSome = true ∧ w.base ≤ r ∧ r < w.base + w.length

theorem any_live_covers_iff : (s.board.windows.any fun w => w.live.isSome && coversStore w r) = true ↔ InLiveWindow s r := by
  simp [coversStore, InLiveWindow]

theorem officeRow_field (h : 511 < r ∨ cellsOf cells = none) : officeRow r cells s = (s, .refused .field) := by
  cases hcells : cellsOf cells with
  | none => simp [officeRow, hcells]
  | some row =>
    have hr : 511 < r := h.resolve_right (by simp [hcells])
    simp [officeRow, hcells, hr]

theorem officeRow_protected (hcells : cellsOf cells = some row) (hr : r ≤ 511) (hlive : InLiveWindow s r) :
    officeRow r cells s = (s, .refused .isProtected) := by
  simp only [officeRow, hcells, if_neg (Nat.not_lt.2 hr), if_pos (any_live_covers_iff.2 hlive)]

theorem officeRow_accepted (hcells : cellsOf cells = some row) (hr : r ≤ 511) (hlive : ¬ InLiveWindow s r) :
    officeRow r cells s = (writeRow r row s, .accepted) := by
  simp only [officeRow, hcells, if_neg (Nat.not_lt.2 hr), if_neg (any_live_covers_iff.not.2 hlive)]

end OfficeRow

/-- Settles O30: the cells of the body, the two refusals in their order, and the row written with its send marks. -/
theorem rowWrite : Obligations.RowWrite := by
  intro d r1 r0 cells s hp ⟨hstore, _⟩ hlength r live
  have hexec : exec (.rowWrite d (r1 :: r0 :: cells)) s
      = .next (answer d 0x07 (officeRow r cells s).2 noRef (officeRow r cells s).1) := by
    rw [exec_rowWrite d _ s hp, takeRowWrite_whole hlength]
  refine ⟨cellsOf_eq_none_iff cells (by omega), fun row hrow => ?_, fun body hbody => ?_, fun hfield => ?_, fun row hrow hr =>
    ⟨fun hlive => ?_, fun hlive => ⟨writeRow r row s, ?_, ?_, ?_, ?_, ?_, ?_⟩⟩⟩
  · obtain ⟨hhalf, hcells⟩ := cellsOf_eq_some hrow
    exact ⟨by omega, fun i hi => hcells i (by omega)⟩
  · rw [exec_rowWrite d _ s hp, takeRowWrite_wrong_length hbody, noRef]
  · rw [hexec, officeRow_field hfield, noRef]
  · rw [hexec, officeRow_protected hrow hr hlive, noRef]
  · rw [hexec, officeRow_accepted hrow hr hlive, noRef]
  · exact storeRow_writeRow_same r row s hstore
  · exact fun q hq => storeRow_writeRow_other row s hq
  · exact writeRow_of_identical
  · exact writeRow_frame r row s
  · exact fun hchanged => (panelsMarked_writeRow hchanged).marks

end Sys2Proof.Proofs
end

section
/-! PROOFS. The panel bus (R89, R109, R211): the content of a panel row, the panel in turn, and the message of its turn. -/

namespace Sys2Proof.Proofs

open Sys2Proof Sys2Proof.Machine Sys2Proof.Laws

theorem exec_busTransaction (s : State) (hp : s.powered = true) : exec .busTransaction s = .next (beginTransaction s) := by
  simp [exec, execBusTransaction, whenPowered, hp]

/-! ### The content of a panel row (R89) -/

/-- R87: a window covers a panel row. -/
def CoversPanelRow (p row : Nat) (w : Window) : Prop := w.panel = p ∧ w.first ≤ row ∧ row < w.first + w.length

theorem panelContent_of_uncovered {p row : Nat} {s : State} (h : ∀ w ∈ s.board.windows, ¬ CoversPanelRow p row w) :
    panelContent s p row = spaces := by
  unfold panelContent
  split
  · next w hfound =>
    exact absurd (by simpa [CoversPanelRow] using List.find?_some hfound) (h w (List.mem_of_find?_eq_some hfound))
  · rfl

theorem panelContent_of_covered {p row : Nat} {w : Window} {s : State} (hw : w ∈ s.board.windows) (hcovers : CoversPanelRow p row w)
    (honly : ∀ x ∈ s.board.windows, CoversPanelRow p row x → x = w) :
    panelContent s p row = if w.shown then storeRow s (w.base + (row - w.first)) else spaces := by
  unfold panelContent
  split
  · next x hfound =>
    have hx : CoversPanelRow p row x := by simpa [CoversPanelRow] using List.find?_some hfound
    rw [honly x (List.mem_of_find?_eq_some hfound) hx]
  · next hnone => exact absurd hcovers (by simpa [CoversPanelRow] using List.find?_eq_none.1 hnone w hw)

/-! ### The panel in turn (R109) -/

/-- R109: a present panel has a message to send. -/
theorem waiting_iff (r : PanelRec) :
    waiting r = true ↔ r.present = true
      ∧ (if r.silent = true then r.pingDue = true else r.modePending = true ∨ (r.eff ≠ .off ∧ true ∈ r.marks)) := by
  cases hsilent : r.silent <;> simp [waiting, hsilent]

/-- The record of panel `p`, while the panel is waiting. -/
def waitingRec (s : State) (p : Nat) : Option PanelRec := (panelRec s p).filter waiting

theorem panelRec_of_pos (s : State) {p : Nat} (hp : 1 ≤ p) : panelRec s p = s.panels.recs[p - 1]? := if_neg (by omega)

theorem waitingRec_eq_some {p : Nat} {r : PanelRec} {s : State} (hp : 1 ≤ p) (hrec : s.panels.recs[p - 1]? = some r)
    (hwaits : waiting r = true) : waitingRec s p = some r :=
  Option.filter_eq_some_iff.2 ⟨(panelRec_of_pos s hp).trans hrec, hwaits⟩

theorem waitingRec_eq_none {p : Nat} {s : State} (hp : 1 ≤ p)
    (h : ¬ ∃ r, s.panels.recs[p - 1]? = some r ∧ waiting r = true) : waitingRec s p = none :=
  Option.filter_eq_none_iff.2 fun r hrec hwaits => h ⟨r, (panelRec_of_pos s hp).symm.trans hrec, hwaits⟩

/-- R109: the six panels are asked one after another, the first being the one after the place. -/
theorem nextPanel_eq (s : State) :
    nextPanel s = (List.range 6).findSome? fun i =>
      (waitingRec s ((s.panels.place + i) % 6 + 1)).map ((s.panels.place + i) % 6 + 1, ·) := by
  rw [nextPanel, turns, List.findSome?_map]
  congr 1
  funext i
  dsimp only [Function.comp_apply, waitingRec]
  cases panelRec s ((s.panels.place + i) % 6 + 1) with
  | none => rfl
  | some r => by_cases hwaits : waiting r = true <;> simp [hwaits]

theorem findSome?_range_eq_some {β : Type} {f : Nat → Option β} {b : β} {i n : Nat} (hi : i < n)
    (hbefore : ∀ j, j < i → f j = none) (hfound : f i = some b) : (List.range n).findSome? f = some b := by
  obtain ⟨k, rfl⟩ : ∃ k, n = i + (k + 1) := ⟨n - i - 1, by omega⟩
  have hnone : (List.range i).findSome? f = none :=
    List.findSome?_eq_none_iff.2 fun j hj => hbefore j (List.mem_range.1 hj)
  simp [List.range_add, List.range_succ_eq_map, hnone, hfound]

theorem nextPanel_of_first {i : Nat} {r : PanelRec} {s : State} (hi : i < 6)
    (hbefore : ∀ j, j < i → waitingRec s ((s.panels.place + j) % 6 + 1) = none)
    (hturn : waitingRec s ((s.panels.place + i) % 6 + 1) = some r) : nextPanel s = some ((s.panels.place + i) % 6 + 1, r) := by
  rw [nextPanel_eq]
  exact findSome?_range_eq_some hi (fun j hj => by rw [hbefore j hj]; rfl) (by rw [hturn]; rfl)

theorem nextPanel_of_none {s : State} (h : ∀ p, 1 ≤ p → p ≤ 6 → waitingRec s p = none) : nextPanel s = none := by
  rw [nextPanel_eq, List.findSome?_eq_none_iff]
  intro i _
  rw [h _ (by omega) (by omega)]
  rfl

/-! ### The transaction begun (R109, R211) -/

theorem updPanel_of_rec {p : Nat} {r : PanelRec} {s : State} (hp : 1 ≤ p) (hrec : s.panels.recs[p - 1]? = some r)
    (f : PanelRec → PanelRec) :
    updPanel p f s = { s with panels := { s.panels with recs := s.panels.recs.set (p - 1) (f r) } } := by
  simp [updPanel, Nat.ne_of_gt hp, List.modify_eq_set_getElem?, hrec]

/-- R109: panel `p` has its turn, with the message `m` and the record that `m` leaves. -/
def begun (p : Nat) (m : BusMsg × List Byte × PanelRec) (s : State) : State :=
  { s with
    panels := { recs := s.panels.recs.set (p - 1) m.2.2, place := p, inFlight := some (p, m.1) }
    out := s.out ++ [.bus m.2.1] }

theorem beginTransaction_of_inFlight {s : State} (h : s.panels.inFlight.isSome = true) : beginTransaction s = s := if_pos h

theorem beginTransaction_of_no_next {s : State} (h : nextPanel s = none) : beginTransaction s = s := by
  simp [beginTransaction, h]

theorem beginTransaction_of_next {p : Nat} {r : PanelRec} {s : State} (hidle : s.panels.inFlight = none)
    (hnext : nextPanel s = some (p, r)) (hp : 1 ≤ p) (hrec : s.panels.recs[p - 1]? = some r) :
    beginTransaction s = begun p (turnMessage s p r) s := by
  simp [beginTransaction, hidle, hnext, updPanel_of_rec hp hrec, send, begun]

section TurnMessage

variable {p : Nat} {r : PanelRec} {s : State}

theorem turnMessage_ping (hsilent : r.silent = true) :
    turnMessage s p r = (.ping, withCheck [byte p, 3], { r with pingDue := false }) := if_pos hsilent

theorem turnMessage_mode (hsilent : r.silent = false) (hmode : r.modePending = true) :
    turnMessage s p r = (.mode, withCheck [byte p, 2, byte (modeCode r.eff)], { r with modePending := false }) := by
  rw [turnMessage, if_neg (by simp [hsilent]), if_pos hmode]
  rfl

/-- R109: the lowest-numbered marked row. -/
theorem findIdx_marks_eq {row : Nat} {marks : List Bool} (hrow : marks[row]? = some true)
    (hlower : ∀ j, j < row → marks[j]? = some false) : marks.findIdx id = row := by
  obtain ⟨hlength, hmarked⟩ := List.getElem?_eq_some_iff.1 hrow
  refine (List.findIdx_eq hlength).2 ⟨hmarked, fun j hj => ?_⟩
  obtain ⟨_, hclear⟩ := List.getElem?_eq_some_iff.1 (hlower j hj)
  exact hclear

theorem turnMessage_row {row : Nat} (hsilent : r.silent = false) (hmode : r.modePending = false)
    (hrow : r.marks[row]? = some true) (hlower : ∀ j, j < row → r.marks[j]? = some false) :
    turnMessage s p r = (.row row, withCheck ([byte p, 1, byte row] ++ rowBytes (panelContent s p row)),
      { r with marks := r.marks.set row false }) := by
  rw [turnMessage, if_neg (by simp [hsilent]), if_neg (by simp [hmode]), findIdx_marks_eq hrow hlower]
  rfl

end TurnMessage

/-- Table 12-3: the byte of a panel mode. -/
theorem byte_modeCode (m : PanelMode) : byte (modeCode m) = match m with | .off => 0 | .dim => 1 | .on => 2 := by
  cases m <;> rfl

/-- Table 12-3: the second byte of a cell. -/
theorem byte_cellAttrCode (a : CellAttr) :
    byte (cellAttrCode a) = match a with | .normal => 0 | .inverse => 1 | .flash => 2 := by
  cases a <;> rfl

/-- R204, R211: a row goes out as the code and the attribute of each cell. -/
theorem rowBytes_eq (row : Row) :
    rowBytes row = row.flatMap fun c =>
      [BitVec.ofNat 8 c.code, match c.attr with | .normal => 0 | .inverse => 1 | .flash => 2] := by
  refine List.flatMap_congr fun c _ => ?_
  rw [byte_cellAttrCode]
  rfl

/-- Settles O33: the two cases without a transaction, the content of a panel row, and the three messages of a turn. -/
theorem busTransaction : Obligations.BusTransaction := by
  intro s hp waits
  have hwaits : ∀ q, waits q ↔ ∃ r, s.panels.recs[q - 1]? = some r ∧ waiting r = true := fun q =>
    exists_congr fun r => and_congr_right fun _ => (waiting_iff r).symm
  have hnone : ∀ q, 1 ≤ q → ¬ waits q → waitingRec s q = none := fun q hq h => waitingRec_eq_none hq ((hwaits q).not.1 h)
  rw [exec_busTransaction s hp]
  refine ⟨fun hflight => ?_, fun hquiet => ?_, fun p row => ?_, fun i r hidle hi => ?_⟩
  · rw [beginTransaction_of_inFlight hflight]
  · rw [beginTransaction_of_no_next (nextPanel_of_none fun q hq hq6 => hnone q hq (hquiet q hq hq6))]
  · exact ⟨panelContent_of_uncovered, fun w hw => panelContent_of_covered hw⟩
  · intro p hbefore hturn hrec begunWith
    have hpos : 1 ≤ p := Nat.le_add_left 1 _
    obtain ⟨r', hrec', hwaiting⟩ := (hwaits p).1 hturn
    obtain rfl : r = r' := Option.some.inj (hrec.symm.trans hrec')
    have hnext : nextPanel s = some (p, r) :=
      nextPanel_of_first hi (fun j hj => hnone _ (Nat.le_add_left 1 _) (hbefore j hj)) (waitingRec_eq_some hpos hrec hwaiting)
    rw [beginTransaction_of_next hidle hnext hpos hrec]
    refine ⟨fun hsilent => ?_, fun hsilent hmode => ?_, fun row hsilent hmode hrow hlower => ?_⟩
    · rw [turnMessage_ping hsilent]
      rfl
    · rw [turnMessage_mode hsilent hmode, byte_modeCode]
      rfl
    · rw [turnMessage_row hsilent hmode hrow hlower, rowBytes_eq]
      rfl

end Sys2Proof.Proofs
end

section
/-! PROOFS. The fares (R119 to R127): each stage with its exact rounding, and what a quote carries of the fares of stage 7. -/

namespace Sys2Proof.Proofs

open Sys2Proof Sys2Proof.Machine Sys2Proof.Laws

/-! ### The stages (R122 to R126) -/

/-- R123, R125, R126: a percentage of an amount in steps, rounded up in one division. -/
theorem ceilDiv_percent (a percent step : Nat) (hstep : 1 ≤ step) :
    ceilDiv (a * percent) (100 * step) = ⌈(a : ℚ) * percent / (100 * step)⌉₊ := by
  rw [ceilDiv_eq_ceil _ _ (by omega)]
  push_cast
  rfl

/-- R122, stage 1: the distance beyond the taper point, as the claim spells it. -/
theorem distanceCharge_eq (g : Tariff) (d : Nat) :
    distanceCharge g d = g.rate1 * min d g.taper + g.rate2 * (max d g.taper - g.taper) := by
  have hbeyond : d - g.taper = max d g.taper - g.taper := by omega
  rw [distanceCharge, hbeyond]

/-- R122, stage 2. -/
theorem rawAdult_eq (g : Tariff) (d : Nat) : rawAdult g d = g.boarding + ⌈(distanceCharge g d : ℚ) / 1000⌉₊ := by
  rw [rawAdult, ceilDiv_eq_ceil _ _ (by decide), Nat.cast_ofNat]

/-- R123, stage 3. -/
theorem bandedAdult_eq (g : Tariff) {step : Nat} (hstep : 1 ≤ step) (band : Band) (a : Nat) :
    bandedAdult g step band a = match band with
      | .peak => ⌈(a : ℚ) / step⌉₊ * step
      | .offPeak => ⌈(a : ℚ) * g.offPeak / (100 * step)⌉₊ * step := by
  cases band with
  | peak => rw [bandedAdult, ceilDiv_eq_ceil a step hstep]
  | offPeak => rw [bandedAdult, ceilDiv_percent a g.offPeak step hstep]

/-- R125, stage 5. -/
theorem childSingle_eq (step childMin a : Nat) :
    childSingle step childMin a = min (max (⌊(a : ℚ) / (2 * step)⌋₊ * step) childMin) a := by
  rw [childSingle, div_eq_floor]
  push_cast
  rfl

/-- R125, stage 6. -/
theorem concSingle_eq (g : Tariff) {step : Nat} (hstep : 1 ≤ step) (band : Band) (a : Nat) :
    concSingle g step band a =
      if band = .peak ∧ g.barred = true then none else some (⌈(a : ℚ) * g.conc / (100 * step)⌉₊ * step) := by
  rw [concSingle, ceilDiv_percent a g.conc step hstep]

/-- R126, stage 7. -/
theorem productFare_eq (g : Tariff) {step : Nat} (hstep : 1 ≤ step) (p : Product) (x : Nat) :
    productFare g step p x = match p with
      | .single => x
      | .ret => ⌈(x : ℚ) * g.ret / (100 * step)⌉₊ * step := by
  cases p with
  | single => rfl
  | ret => rw [productFare, ceilDiv_percent x g.ret step hstep]

/-- R123 to R126: every fare is a multiple of the step where the cap and the child minimum are. -/
theorem step_dvd_faresFor {f : FareTable} {g : Tariff} (d : Nat) (band : Band) (p : Product) (hmin : f.step ∣ f.childMin)
    (hcap : f.step ∣ g.cap) :
    f.step ∣ (faresFor f g d band p).adult ∧ f.step ∣ (faresFor f g d band p).child
      ∧ ∀ c, (faresFor f g d band p).conc = some c → f.step ∣ c := by
  have hadult : f.step ∣ cappedAdult g (bandedAdult g f.step band (rawAdult g d)) :=
    step_dvd_cappedAdult g _ _ (step_dvd_bandedAdult g _ band _) hcap
  refine ⟨step_dvd_productFare g _ p _ hadult, step_dvd_productFare g _ p _ (step_dvd_childSingle _ _ _ hmin hadult), ?_⟩
  intro c hc
  obtain ⟨single, hsingle, rfl⟩ := Option.map_eq_some_iff.1 hc
  refine step_dvd_productFare g _ p _ ?_
  unfold concSingle at hsingle
  split at hsingle
  · cases hsingle
  · cases hsingle
    exact Nat.dvd_mul_left _ _

/-! ### The fares of a quote (R119, R120, R127) -/

/-- R127: every kind that travels has its fare in range. -/
theorem outOfRange_eq_false_iff (p : Party) (x : Fares) :
    outOfRange p x = false ↔ (1 ≤ p.na → x.adult ≤ fareMax) ∧ (1 ≤ p.nc → x.child ≤ fareMax)
      ∧ (1 ≤ p.nq → ∀ c, x.conc = some c → c ≤ fareMax) := by
  cases hconc : x.conc <;> simp [outOfRange, hconc, and_assoc]

theorem carried_eq_some {x y : Nat} (h : carried x = some y) : x = y ∧ y ≤ fareMax := by
  unfold carried at h
  split at h
  · cases h
  · next hrange =>
    cases h
    exact ⟨rfl, Nat.not_lt.1 hrange⟩

/-- R119, R126: a fare that the quote leaves out is one of a kind with a count of 0, which contributes nothing. -/
theorem mul_carried {n x : Nat} (h : 1 ≤ n → x ≤ fareMax) : n * (carried x).getD 0 = n * x := by
  obtain rfl | hn := Nat.eq_zero_or_pos n
  · rw [Nat.zero_mul, Nat.zero_mul]
  · rw [carried, if_neg (Nat.not_lt.2 (h hn)), Option.getD_some]

/-- R119, R120: the quote `q` for the party `p` passed the checks 6 to 8 with the fares `x`, and carries them. -/
structure Quotes (p : Party) (x : Fares) (q : Quote) : Prop where
  inRange : outOfRange p x = false
  hasConc : ¬ (1 ≤ p.nq ∧ x.conc = none)
  cheap   : totalFare p x ≤ 99999
  total   : q.total = totalFare p x
  adult   : q.adult = carried x.adult
  child   : q.child = carried x.child
  conc    : q.conc = x.conc.bind carried

theorem quotes_of_priceTo {s : State} {f : FareTable} {st : Stop} {g : Tariff} {r : QuoteReq} {q : Quote}
    (h : priceTo s f st g r = .quote q) :
    Quotes r.party (faresFor f g st.dist (bandOf s f r.service) r.product) q ∧ q.step = f.step := by
  dsimp only [priceTo] at h
  split_ifs at h with hrange hconc hcheap
  cases h
  exact ⟨⟨Bool.eq_false_iff.2 hrange, hconc, Nat.not_lt.1 hcheap, rfl, rfl, rfl, rfl⟩, rfl⟩

/-- R120: a quote request that is quoted was priced from a tariff group of the table in force. -/
theorem priceTo_of_quoteFor {s : State} {r : QuoteReq} {q : Quote} (h : quoteFor s r = .quote q) :
    ∃ f st g, s.fares = some f ∧ g ∈ f.groups ∧ priceTo s f st g r = .quote q := by
  unfold quoteFor at h
  split at h
  · cases h
  · next f hfares =>
    split at h
    · cases h
    · split at h
      · cases h
      · split at h
        · cases h
        · next st _ =>
          split at h
          · cases h
          · next g hgroup =>
            split at h
            · cases h
            · obtain ⟨n, _, hg⟩ := Option.bind_eq_some_iff.1 hgroup
              exact ⟨f, st, g, hfares, List.mem_of_getElem? hg, h⟩

section Quotes

variable {p : Party} {x : Fares} {q : Quote}

/-- R126, stage 8: the total is the sum over the party of the fares that the quote carries. -/
theorem Quotes.total_eq_sum (h : Quotes p x q) :
    q.total = p.na * q.adult.getD 0 + p.nc * q.child.getD 0 + p.nq * q.conc.getD 0 := by
  obtain ⟨hadult, hchild, hconc⟩ := (outOfRange_eq_false_iff p x).1 h.inRange
  have hq : p.nq * (x.conc.bind carried).getD 0 = p.nq * x.conc.getD 0 := by
    cases hx : x.conc with
    | none => rfl
    | some c => exact mul_carried fun hn => hconc hn c hx
  rw [h.total, h.adult, h.child, h.conc, mul_carried hadult, mul_carried hchild, hq, totalFare]

/-- R127: a fare that the quote carries is a fare of stage 7 that is in range. -/
theorem Quotes.fare_of_carried (h : Quotes p x q) {y : Nat} (hy : q.adult = some y ∨ q.child = some y ∨ q.conc = some y) :
    y ≤ fareMax ∧ (x.adult = y ∨ x.child = y ∨ x.conc = some y) := by
  rw [h.adult, h.child, h.conc] at hy
  obtain hy | hy | hy := hy
  · obtain ⟨hfare, hrange⟩ := carried_eq_some hy
    exact ⟨hrange, .inl hfare⟩
  · obtain ⟨hfare, hrange⟩ := carried_eq_some hy
    exact ⟨hrange, .inr (.inl hfare)⟩
  · obtain ⟨c, hc, hy⟩ := Option.bind_eq_some_iff.1 hy
    obtain ⟨rfl, hrange⟩ := carried_eq_some hy
    exact ⟨hrange, .inr (.inr hc)⟩

end Quotes

/-- Settles O35: the stages one after another, and the limits that the checks of the calculator leave a quote. -/
theorem fareStages : Obligations.FareStages := by
  refine ⟨fun f g d band p n hstep => ?_, fun s r q htable hquote => ?_⟩
  · intro step charge raw banded adult child conc fare
    have hraw : rawAdult g d = raw := by rw [rawAdult_eq, distanceCharge_eq]
    have hadult : cappedAdult g (bandedAdult g f.step band (rawAdult g d)) = adult := by
      rw [hraw, bandedAdult_eq g hstep]
      rfl
    have hchild : childSingle f.step f.childMin adult = child := childSingle_eq f.step f.childMin adult
    have hconc : concSingle g f.step band adult = conc := concSingle_eq g hstep band adult
    have hfare : productFare g f.step p = fare := funext (productFare_eq g hstep p)
    have hfares : faresFor f g d band p = ⟨fare adult, fare child, conc.map fare⟩ := by
      rw [faresFor, hadult, hchild, hconc, hfare]
    exact ⟨hfares, by rw [hfares, totalFare]⟩
  · obtain ⟨f, st, g, hfares, hg, hprice⟩ := priceTo_of_quoteFor hquote
    obtain ⟨hquotes, hqstep⟩ := quotes_of_priceTo hprice
    obtain ⟨_, hmin, hcaps⟩ := htable f hfares
    obtain ⟨hadult, hchild, hconc⟩ := step_dvd_faresFor st.dist (bandOf s f r.service) r.product hmin (hcaps g hg)
    refine ⟨hquotes.total.trans_le hquotes.cheap, hquotes.total_eq_sum, fun y hy => ?_⟩
    obtain ⟨hrange, hfare⟩ := hquotes.fare_of_carried hy
    refine ⟨hrange, hqstep ▸ ?_⟩
    obtain rfl | rfl | hc := hfare
    · exact hadult
    · exact hchild
    · exact hconc y hc

end Sys2Proof.Proofs
end

section
/-! PROOFS. The sale begins (R132): what the console's commands are with power, the evaluation of every panel (R108), and what each
console message does in IDLE. -/

namespace Sys2Proof.Proofs

open Sys2Proof Sys2Proof.Machine Sys2Proof.Laws

/-! ### What the console's commands are, with power -/

theorem exec_wake (s : State) (hp : s.powered = true) : exec .wake s = .next (wakeUp s) := by
  simp [exec, execWake, whenPowered, hp]

theorem exec_confirm {total : Nat} (s : State) (hp : s.powered = true) (htotal : total ≤ 99999) :
    exec (.confirm total) s = .next (takeConfirm total s) := by
  simp [exec, execConfirm, whenPowered, hp, htotal]

theorem exec_cancel (s : State) (hp : s.powered = true) : exec .cancel s = .next (abandonOpen .cancelled s) := by
  simp [exec, execCancel, whenPowered, hp]

theorem exec_stopRequest {id : Nat} (s : State) (hp : s.powered = true) (hid : 1 ≤ id ∧ id ≤ 65535) :
    exec (.stopRequest id) s = .next (takeStopRequest id s) := by
  simp [exec, execStopRequest, whenPowered, hp, hid]

theorem exec_destination {stop : Nat} (s : State) (hp : s.powered = true) (hstop : stop ≤ 255) :
    exec (.destination stop) s = .next (choice (takeDestination stop) s) := by
  simp [exec, execDestination, whenPowered, hp, hstop]

theorem exec_service {id : Nat} (s : State) (hp : s.powered = true) (hid : 1 ≤ id ∧ id ≤ 65535) :
    exec (.service id) s = .next (choice (takeService id) s) := by
  simp [exec, execService, whenPowered, hp, hid]

theorem exec_product (p : Product) (s : State) (hp : s.powered = true) :
    exec (.product p) s = .next (choice (takeProduct p) s) := by
  simp [exec, execProduct, whenPowered, hp]

theorem exec_party {na nc nq : Nat} (s : State) (hp : s.powered = true) (hparty : na ≤ 15 ∧ nc ≤ 15 ∧ nq ≤ 15) :
    exec (.party na nc nq) s = .next (choice (takeParty ⟨na, nc, nq⟩) s) := by
  simp [exec, execParty, whenPowered, hp, hparty]

/-- Table 8-5: every choice goes through `choice`, which alone looks at the state of the sale. -/
theorem exec_of_isChoice {c : Instr} (hc : IsChoice c) :
    ∃ take, ∀ s : State, s.powered = true → exec c s = .next (choice take s) := by
  obtain ⟨hwf, ⟨stop, rfl⟩ | ⟨id, rfl⟩ | ⟨p, rfl⟩ | ⟨na, nc, nq, rfl⟩⟩ := hc
  · exact ⟨_, fun s hp => exec_destination s hp (of_decide_eq_true hwf)⟩
  · exact ⟨_, fun s hp => exec_service s hp (of_decide_eq_true hwf)⟩
  · exact ⟨_, fun s hp => exec_product p s hp⟩
  · exact ⟨_, fun s hp => exec_party s hp (of_decide_eq_true hwf)⟩

/-! ### The inactivity timer (R140) -/

theorem touch_of_open {s : State} (h : saleOpen s = true) :
    touch s = { s with sale := { s.sale with inactivity := some 0 } } := if_pos h

theorem touch_of_not_open {s : State} (h : saleOpen s = false) : touch s = s := by simp [touch, h]

theorem saleOpen_of_idle {s : State} (h : s.sale.state = .idle) : saleOpen s = false := by simp [saleOpen, h]

/-! ### Every panel is evaluated (R108) -/

/-- R108: the record of a panel whose evaluation changes its effective mode. -/
def PanelTurns (s : State) (p : Nat) (r : PanelRec) : Prop := r.present = true ∧ effectiveMode s p r.mode ≠ r.eff

theorem evalPanelRec_of_not_turns {s : State} {p : Nat} {r : PanelRec} (h : ¬ PanelTurns s p r) : evalPanelRec s p r = r := by
  unfold PanelTurns at h
  unfold evalPanelRec
  split
  · rfl
  · next hpresent => exact if_pos (by simp_all)

theorem evalPanelRec_of_turns {s : State} {p : Nat} {r : PanelRec} (h : PanelTurns s p r) :
    evalPanelRec s p r = { r with
      marks := if r.eff = .off then r.marks.map (fun _ => true) else r.marks
      eff := effectiveMode s p r.mode, modePending := true } := by
  obtain ⟨hpresent, hmode⟩ := h
  simp only [evalPanelRec, hpresent, Bool.not_true, Bool.false_eq_true, if_false, if_neg hmode, markAllRows]
  split <;> rfl

/-- R108: `evalPanels` judges every panel, and marks no row but those of a panel that comes from OFF. -/
theorem panelsFollow_evalPanels (s : State) : PanelsFollow s (evalPanels s) (fun _ => true) (fun _ _ => False) := by
  refine ⟨rfl, List.length_mapIdx, fun i rec hrec => ⟨evalPanelRec s (i + 1) rec, by simp [evalPanels, hrec], ?_⟩⟩
  have hmode : effectiveMode (evalPanels s) (i + 1) rec.mode = effectiveMode s (i + 1) rec.mode := rfl
  intro p eff turns
  have hturns : turns = true ↔ PanelTurns s (i + 1) rec := by simp [turns, eff, p, hmode, PanelTurns]
  by_cases h : PanelTurns s (i + 1) rec
  · rw [hturns.2 h, evalPanelRec_of_turns h]
    refine ⟨rfl, ?_, fun n hn => ?_⟩
    · split <;> simp
    · by_cases hoff : rec.eff = .off <;> simp [hoff, hn]
  · rw [Bool.eq_false_iff.2 (mt hturns.1 h), evalPanelRec_of_not_turns h]
    exact ⟨rfl, rfl, fun n hn => by simp⟩

/-! ### WAKE and the choices in IDLE (R132) -/

section Idle

variable {s : State} (hidle : s.sale.state = .idle)
include hidle

theorem wakeUp_of_open_idle (hopen : s.cond.salesOpen = true) : wakeUp s = beginSale s := by
  simp [wakeUp, hidle, hopen]

theorem wakeUp_of_closed_idle (hclosed : s.cond.salesOpen = false) : wakeUp s = tellConsole (.closed .salesClosed) s := by
  simp [wakeUp, hidle, hclosed]

theorem choice_of_open_idle (take : State → State) (hopen : s.cond.salesOpen = true) : choice take s = take (beginSale s) := by
  simp [choice, hidle, hopen]

theorem choice_of_closed_idle (take : State → State) (hclosed : s.cond.salesOpen = false) :
    choice take s = tellConsole (.closed .salesClosed) s := by
  simp [choice, hidle, hclosed]

theorem takeConfirm_of_idle (total : Nat) : takeConfirm total s = tellConsole (.refused .notQuoted) s := by
  simp [takeConfirm, hidle]

theorem abandonOpen_of_idle (why : CloseReason) : abandonOpen why s = s := by
  simp [abandonOpen, saleOpen_of_idle hidle]

end Idle

/-- A sale that has just begun is in SELECTING with its timer at 0 already, so a choice there is the taking alone. -/
theorem choice_beginSale (take : State → State) (s : State) : choice take (beginSale s) = take (beginSale s) := by
  calc choice take (beginSale s)
    _ = take (touch (beginSale s)) := rfl
    _ = take (beginSale s) := congrArg take (touch_of_open rfl)

/-! ### A STOP REQUEST and the sale (R152) -/

theorem syncReportTimer_sale (s : State) : (syncReportTimer s).sale = s.sale := rfl

theorem stopReport_sale (s : State) : (stopReport s).sale = s.sale := by
  unfold stopReport report
  split <;> simp

/-- R75: a lodging does not reach the sale. -/
theorem lodge_sale (id day : Nat) (src : ReqSource) (s : State) : (lodge id day src s).1.sale = s.sale := by
  unfold lodge
  split
  · rfl
  · simp only [apply_ite Prod.fst, apply_ite State.sale, tellComposer_sale, stopReport_sale, syncReportTimer_sale, ite_self]

theorem answerStop_sale (id day : Nat) (r : State × StopOutcome) : (answerStop id day r).sale = r.1.sale := by
  unfold answerStop
  split
  case h_1 | h_2 => split <;> rfl
  case h_3 | h_4 | h_5 => rfl

/-- R140, R152: a STOP REQUEST restarts the inactivity timer, and reaches the sale in no other way. -/
theorem takeStopRequest_sale (id : Nat) (s : State) : (takeStopRequest id s).sale = (touch s).sale := by
  simp only [takeStopRequest]
  split
  · rw [answerStop_sale, lodge_sale]
  · rfl

/-- Settles O36: each console message by its equation in IDLE. -/
theorem wakeBeginsSale : Obligations.WakeBeginsSale := by
  intro c total id s hp hidle woken begun
  refine ⟨rfl, panelsFollow_evalPanels woken, fun hopen => ⟨?wake, fun hc => ?choice⟩, fun hclosed hc => ?closed,
    fun htotal => ?confirm, ?cancel, fun hlow hhigh => ?stop⟩
  case wake => rw [exec_wake s hp, wakeUp_of_open_idle hidle hopen]; rfl
  case choice =>
    obtain ⟨take, hexec⟩ := exec_of_isChoice hc
    have hbegun : begun = beginSale s := rfl
    have hpbegun : begun.powered = true := hp
    rw [hexec s hp, hexec begun hpbegun, choice_of_open_idle hidle take hopen, hbegun, choice_beginSale]
  case closed =>
    obtain rfl | hc := hc
    · rw [exec_wake s hp, wakeUp_of_closed_idle hidle hclosed]; rfl
    · obtain ⟨take, hexec⟩ := exec_of_isChoice hc
      rw [hexec s hp, choice_of_closed_idle hidle take hclosed]; rfl
  case confirm => rw [exec_confirm s hp htotal, takeConfirm_of_idle hidle]; rfl
  case cancel => rw [exec_cancel s hp, abandonOpen_of_idle hidle]
  case stop =>
    refine ⟨_, exec_stopRequest s hp ⟨hlow, hhigh⟩, ?_⟩
    rw [takeStopRequest_sale, touch_of_not_open (saleOpen_of_idle hidle)]

end Sys2Proof.Proofs
end

section
/-! PROOFS. The tube counts set by the office (R163, R164): what the raising of notices changes (R196, R197), and what the evaluation of
the low states comes to. -/

namespace Sys2Proof.Proofs

open Sys2Proof Sys2Proof.Machine Sys2Proof.Laws

/-! ### Notices raised (R196 to R198) -/

/-- R11: an own frame reaches the own-frame queue and its drop counter alone. -/
def OwnFramesAlone (s t : State) : Prop := ∃ queue drops, t = { s with line := { s.line with ownQ := queue, ownDrops := drops } }

/-- R196, R197: a set of notices is raised; the ALERT this may cause is an own frame. -/
def Raises (notices : BitVec 16) (s t : State) : Prop :=
  OwnFramesAlone { s with cond := { s.cond with pending := s.cond.pending ||| notices } } t

theorem OwnFramesAlone.refl (s : State) : OwnFramesAlone s s := ⟨s.line.ownQ, s.line.ownDrops, rfl⟩

theorem ownFramesAlone_handOwn (k : OwnKind) (b : List Byte) (s : State) : OwnFramesAlone s (handOwn k b s) := by
  unfold handOwn
  split
  · exact ⟨_, _, rfl⟩
  · exact ⟨_, _, rfl⟩

theorem ownFramesAlone_report (why : ReportReason) (s : State) : OwnFramesAlone s (report why s) := by
  unfold report
  split
  · exact ownFramesAlone_handOwn _ _ s
  · exact .refl s

theorem ownFramesAlone_alertAfter (before s : State) : OwnFramesAlone s (alertAfter before s) := by
  unfold alertAfter
  split
  · exact ownFramesAlone_report .alert s
  · exact .refl s

theorem Raises.refl (s : State) : Raises 0#16 s s := by
  simpa only [Raises, BitVec.or_zero] using OwnFramesAlone.refl s

theorem Raises.trans {a b : BitVec 16} {s t u : State} (h : Raises a s t) (k : Raises b t u) : Raises (a ||| b) s u := by
  obtain ⟨_, _, rfl⟩ := h
  obtain ⟨queue, drops, rfl⟩ := k
  exact ⟨queue, drops, by simp only [BitVec.or_assoc]⟩

theorem Raises.pay {notices : BitVec 16} {s t : State} (h : Raises notices s t) : t.pay = s.pay := by
  obtain ⟨_, _, rfl⟩ := h
  rfl

theorem raises_raiseNotice (n : Notice) (s : State) : Raises (noticeSet n) s (raiseNotice n s) := ownFramesAlone_alertAfter s _

theorem raises_raiseIf (rise : Bool) (n : Notice) (s : State) : Raises (if rise then noticeSet n else 0#16) s (raiseIf rise n s) := by
  cases rise with
  | true => exact raises_raiseNotice n s
  | false => exact .refl s

@[simp] theorem raiseIf_pay (rise : Bool) (n : Notice) (s : State) : (raiseIf rise n s).pay = s.pay := (raises_raiseIf rise n s).pay

/-- One notice raised for either of two causes. -/
theorem or_ite_same (a b : Bool) (notices : BitVec 16) :
    (if a then notices else 0#16) ||| (if b then notices else 0#16) = if a || b then notices else 0#16 := by
  cases a <;> cases b <;> simp

theorem or_ite_zero (rise : Bool) (pending notices : BitVec 16) :
    pending ||| (if rise then notices else 0#16) = if rise then pending ||| notices else pending := by
  cases rise <;> simp

/-! ### The low states (R163) -/

/-- R163: a tube falls low. -/
def tubeFallsLow (s : State) : Bool :=
  ((setLows s).pay.low10 && !s.pay.low10) || ((setLows s).pay.low20 && !s.pay.low20)
    || ((setLows s).pay.low50 && !s.pay.low50) || ((setLows s).pay.low100 && !s.pay.low100)

/-- R163: the low states with the marks of the NOTICES windows, before any notice. -/
def lowsMarked (s : State) : State := if (setLows s).pay.low10 = s.pay.low10 then setLows s else markNotices (setLows s)

@[simp] theorem lowsMarked_pay (s : State) : (lowsMarked s).pay = (setLows s).pay := by
  unfold lowsMarked
  split <;> rfl

theorem lowsMarked_frame (s : State) : ∃ windows, lowsMarked s = { setLows s with board := { s.board with windows := windows } } := by
  unfold lowsMarked
  split
  · exact ⟨_, rfl⟩
  · exact ⟨_, rfl⟩

/-- R163: the evaluation judges each tube by the new low states and the old ones. -/
theorem evalTubes_eq (s : State) : evalTubes s =
    raiseIf ((setLows s).pay.low100 && !s.pay.low100) .tubeLow
      (raiseIf ((setLows s).pay.low50 && !s.pay.low50) .tubeLow
        (raiseIf ((setLows s).pay.low20 && !s.pay.low20) .tubeLow
          (raiseIf ((setLows s).pay.low10 && !s.pay.low10) .tubeLow (lowsMarked s)))) := by
  have hfold : (if (setLows s).pay.low10 = s.pay.low10 then setLows s else markNotices (setLows s)) = lowsMarked s := rfl
  simp only [evalTubes, hfold, raiseIf_pay, lowsMarked_pay]

/-- R163: however many tubes fall low, the notice raised is TUBE_LOW. -/
theorem raises_evalTubes (s : State) : Raises (if tubeFallsLow s then noticeSet .tubeLow else 0#16) (lowsMarked s) (evalTubes s) := by
  have h := (((raises_raiseIf ((setLows s).pay.low10 && !s.pay.low10) .tubeLow (lowsMarked s)).trans
    (raises_raiseIf ((setLows s).pay.low20 && !s.pay.low20) .tubeLow _)).trans
    (raises_raiseIf ((setLows s).pay.low50 && !s.pay.low50) .tubeLow _)).trans
    (raises_raiseIf ((setLows s).pay.low100 && !s.pay.low100) .tubeLow _)
  simp only [or_ite_same] at h
  rw [evalTubes_eq]
  exact h

/-! ### TUBE SET (R164) -/

theorem exec_tubeSet (d : Dest) (body : List Byte) (s : State) (hp : s.powered = true) :
    exec (.tubeSet d body) s = .next (takeTubeSet d body s) := by
  simp [exec, execTubeSet, whenPowered, hp]

/-- Settles O49: the evaluation of the low states is the lows with their marks, and then TUBE_LOW raised or not. -/
theorem tubeSet : Obligations.TubeSet := by
  intro d a1 a0 b1 b0 c1 c0 d1 d0 s hp counts held lows rises
  let emptied : State := { s with ret := { s.ret with tubes := held }, pay := { s.pay with outstanding := none } }
  refine ⟨evalTubes emptied, exec_tubeSet d _ s hp, ?_⟩
  have hrises : tubeFallsLow emptied = rises := rfl
  obtain ⟨queue, drops, hraised⟩ := raises_evalTubes emptied
  obtain ⟨windows, hmarked⟩ := lowsMarked_frame emptied
  rw [hraised, hmarked, hrises, or_ite_zero]
  rfl

end Sys2Proof.Proofs
end

section
/-! PROOFS. The deny list (R168, R169, R204): the tokens of a body, the tokens that join, and the age with DENY_OLD. -/

namespace Sys2Proof.Proofs

open Sys2Proof Sys2Proof.Machine Sys2Proof.Laws

/-! ### The tokens of a body (R204) -/

theorem readTokens_zero (bytes : List Byte) : readTokens 0 bytes = if bytes.length = 0 then some [] else none := by
  cases bytes <;> rfl

/-- R204: the first token is the first eight bytes. -/
theorem readTokens_succ (n : Nat) (bytes : List Byte) : readTokens (n + 1) bytes =
    if 8 ≤ bytes.length then (readTokens n (bytes.drop 8)).map (beNat (bytes.take 8) :: ·) else none := by
  match bytes with
  | _ :: _ :: _ :: _ :: _ :: _ :: _ :: _ :: rest => simp [readTokens]
  | [] | [_] | [_, _] | [_, _, _] | [_, _, _, _] | [_, _, _, _, _] | [_, _, _, _, _, _] | [_, _, _, _, _, _, _] => rfl

/-- R204, R205: `n` tokens, one for each run of eight bytes, and none where the bytes are too few or too many. -/
theorem readTokens_eq (n : Nat) (bytes : List Byte) : readTokens n bytes =
    if bytes.length = 8 * n then some ((List.range n).map fun i => beNat ((bytes.drop (8 * i)).take 8)) else none := by
  induction n generalizing bytes with
  | zero => exact readTokens_zero bytes
  | succ n ih =>
    rw [readTokens_succ, ih]
    by_cases hlen : bytes.length = 8 * (n + 1)
    · have hrest : (bytes.drop 8).length = 8 * n := by rw [List.length_drop]; omega
      have hstart (i : Nat) : 8 + 8 * i = 8 * (i + 1) := by omega
      simp [hlen, hrest, List.range_succ_eq_map, List.drop_drop, hstart, Function.comp_def]
    · rw [if_neg hlen]
      split
      · have hrest : ¬ (bytes.drop 8).length = 8 * n := by rw [List.length_drop]; omega
        rw [if_neg hrest]; rfl
      · rfl

/-! ### Tokens joining the list (R167, R168) -/

theorem mem_insertToken {x t : Nat} {l : List Nat} : x ∈ insertToken t l ↔ x = t ∨ x ∈ l := by
  induction l with
  | nil => simp [insertToken]
  | cons u us ih =>
    unfold insertToken
    split
    · exact List.mem_cons
    · split
      · next h => subst h; simp
      · simp only [List.mem_cons, ih]; exact or_left_comm

theorem pairwise_insertToken (t : Nat) {l : List Nat} (hl : l.Pairwise (· < ·)) : (insertToken t l).Pairwise (· < ·) := by
  induction l with
  | nil => exact List.pairwise_singleton _ t
  | cons u us ih =>
    obtain ⟨hu, hus⟩ := List.pairwise_cons.1 hl
    unfold insertToken
    split
    · next htu => exact List.pairwise_cons.2 ⟨List.forall_mem_cons.2 ⟨htu, fun x hx => htu.trans (hu x hx)⟩, hl⟩
    · split
      · exact hl
      · refine List.pairwise_cons.2 ⟨fun x hx => ?_, ih hus⟩
        obtain rfl | hx := mem_insertToken.1 hx
        · omega
        · exact hu x hx

theorem mem_insertTokens {x : Nat} {ts l : List Nat} : x ∈ insertTokens ts l ↔ x ∈ l ∨ x ∈ ts := by
  induction ts with
  | nil => simp [insertTokens]
  | cons t ts ih =>
    calc x ∈ insertTokens (t :: ts) l
      _ ↔ x = t ∨ x ∈ insertTokens ts l := mem_insertToken
      _ ↔ x ∈ l ∨ x ∈ t :: ts := by rw [ih, List.mem_cons]; exact or_left_comm

theorem pairwise_insertTokens (ts : List Nat) {l : List Nat} (hl : l.Pairwise (· < ·)) : (insertTokens ts l).Pairwise (· < ·) := by
  induction ts with
  | nil => exact hl
  | cons t ts ih => exact pairwise_insertToken t ih

/-- R168: the tokens of a list, each once, that another list does not hold. -/
def newTokens (ts l : List Nat) : List Nat := ts.dedup.filter fun x => decide (x ∉ l)

/-- R168: the list grows by the number of its new tokens: it is, but for the order, the list with the new tokens behind it. -/
theorem length_insertTokens (ts : List Nat) {l : List Nat} (hl : l.Pairwise (· < ·)) :
    (insertTokens ts l).length = l.length + (newTokens ts l).length := by
  have hjoined : (insertTokens ts l).Nodup := (pairwise_insertTokens ts hl).imp Nat.ne_of_lt
  have happended : (l ++ newTokens ts l).Nodup :=
    List.nodup_append'.2 ⟨hl.imp Nat.ne_of_lt, (List.nodup_dedup ts).filter _, fun x hx hnew => by simp [newTokens, hx] at hnew⟩
  have hperm : (insertTokens ts l).Perm (l ++ newTokens ts l) := by
    refine (List.perm_ext_iff_of_nodup hjoined happended).2 fun x => ?_
    by_cases hx : x ∈ l <;> simp [mem_insertTokens, newTokens, hx]
  rw [hperm.length_eq, List.length_append]

/-! ### DENY ADD (R168) -/

theorem exec_denyAdd (d : Dest) (body : List Byte) (s : State) (hp : s.powered = true) :
    exec (.denyAdd d body) s = .next (takeDenyAdd d body s) := by
  simp [exec, execDenyAdd, whenPowered, hp]

theorem takeDenyAdd_nil (d : Dest) (s : State) : takeDenyAdd d [] s = answer d 0x0F (.refused .field) noRef s := rfl

theorem takeDenyAdd_field {n : Byte} {rest : List Byte} (d : Dest) (s : State)
    (h : ¬ (1 ≤ n.toNat ∧ n.toNat ≤ 24) ∨ readTokens n.toNat rest = none) :
    takeDenyAdd d (n :: rest) s = answer d 0x0F (.refused .field) noRef s := by
  by_cases hcount : 1 ≤ n.toNat ∧ n.toNat ≤ 24
  · simp [takeDenyAdd, hcount, h.resolve_left (not_not_intro hcount)]
  · exact if_neg hcount

theorem takeDenyAdd_tokens {n : Byte} {rest : List Byte} {ts : List Nat} (d : Dest) (s : State)
    (hcount : 1 ≤ n.toNat ∧ n.toNat ≤ 24) (hts : readTokens n.toNat rest = some ts) :
    takeDenyAdd d (n :: rest) s = answer d 0x0F (addTokens ts s).2 noRef (addTokens ts s).1 := by
  simp [takeDenyAdd, hcount, hts]

theorem addTokens_of_room {ts : List Nat} {s : State} (h : (insertTokens ts s.pay.deny).length ≤ 2048) :
    addTokens ts s = ({ s with pay := { s.pay with deny := insertTokens ts s.pay.deny } }, .accepted) := if_pos h

theorem addTokens_of_no_room {ts : List Nat} {s : State} (h : 2048 < (insertTokens ts s.pay.deny).length) :
    addTokens ts s = (s, .full) := if_neg (Nat.not_le.2 h)

/-! ### The age of the list and DENY_OLD (R169) -/

@[simp] theorem setSalesOpen_pay (s : State) : (setSalesOpen s).pay = s.pay := by
  unfold setSalesOpen
  split <;> rfl

@[simp] theorem releaseReservation_pay (s : State) : (releaseReservation s).pay = s.pay := by
  simp only [releaseReservation, evalFillWith, apply_ite State.pay, setSalesOpen_pay, raiseIf_pay, ite_self]

@[simp] theorem closePayment_denyOld (s : State) : (closePayment s).pay.denyOld = s.pay.denyOld := by
  have hreturn : (returnEscrow s).pay.denyOld = s.pay.denyOld := by unfold returnEscrow; split <;> rfl
  have haccept (t : State) : (acceptOff t).pay.denyOld = t.pay.denyOld := by unfold acceptOff; split <;> rfl
  have hdisarm (t : State) : (disarm t).pay.denyOld = t.pay.denyOld := by unfold disarm; split <;> rfl
  simp only [closePayment, hdisarm, haccept, hreturn]

@[simp] theorem abandon_denyOld (why : CloseReason) (s : State) : (abandon why s).pay.denyOld = s.pay.denyOld := by
  have hclose : (if s.sale.state = .paying then closePayment s else s).pay.denyOld = s.pay.denyOld := by split <;> simp
  have hrelease (t : State) : (if t.sale.reserved then releaseReservation t else t).pay = t.pay := by split <;> simp
  simp only [abandon, evalPanels_pay, tellConsole_pay, saleToRest_pay, hrelease, hclose]

@[simp] theorem evalSalesOpen_denyOld (s : State) : (evalSalesOpen s).pay.denyOld = s.pay.denyOld := by
  unfold evalSalesOpen
  dsimp only
  split <;> simp

/-- R155, R165: what follows a change of availability does not reach DENY_OLD. -/
@[simp] theorem evalAvail_denyOld (s : State) : (evalAvail s).pay.denyOld = s.pay.denyOld := by
  have havail : (setAvail s).pay.denyOld = s.pay.denyOld := by unfold setAvail; split <;> rfl
  have haccept (t : State) : (evalAccept t).pay.denyOld = t.pay.denyOld := by unfold evalAccept; split <;> rfl
  have harm (t : State) : (evalArm t).pay.denyOld = t.pay.denyOld := by
    unfold evalArm
    dsimp only
    split
    · rfl
    · split <;> rfl
  simp only [evalAvail, harm, haccept, evalSalesOpen_denyOld, havail]

theorem evalDenyOld_denyOld (s : State) : (evalDenyOld s).pay.denyOld = denyOldNow s := by
  unfold evalDenyOld
  split
  · next h => exact h.symm
  · rw [evalAvail_denyOld, raiseIf_pay]

theorem denyOldNow_of_keeps {s t : State} (h : Keeps s t) : denyOldNow t = denyOldNow s := by
  rw [denyOldNow, denyOldNow, h.settings, h.pay]

theorem keeps_setDenyAge (n : Nat) (s : State) : Keeps { s with pay := { s.pay with denyAge := n } } (setDenyAge n s) :=
  keeps_evalDenyOld _

theorem setDenyAge_denyAge (n : Nat) (s : State) : (setDenyAge n s).pay.denyAge = n := by rw [(keeps_setDenyAge n s).pay]

theorem setDenyAge_deny (n : Nat) (s : State) : (setDenyAge n s).pay.deny = s.pay.deny := by rw [(keeps_setDenyAge n s).pay]

theorem setDenyAge_denyOld (n : Nat) (s : State) : (setDenyAge n s).pay.denyOld = denyOldNow (setDenyAge n s) :=
  (evalDenyOld_denyOld _).trans (denyOldNow_of_keeps (keeps_setDenyAge n s)).symm

theorem exec_denyConfirm (d : Dest) (body : List Byte) (s : State) (hp : s.powered = true) :
    exec (.denyConfirm d body) s = .next (takeDenyConfirm body s) := by
  simp [exec, execDenyConfirm, whenPowered, hp]

theorem takeDenyConfirm_other {n1 n0 : Byte} {s : State} (h : beNat [n1, n0] ≠ s.pay.deny.length) :
    takeDenyConfirm [n1, n0] s = s := if_neg h

theorem takeDenyConfirm_same {n1 n0 : Byte} {s : State} (h : beNat [n1, n0] = s.pay.deny.length) :
    takeDenyConfirm [n1, n0] s = setDenyAge 0 s := if_pos h

/-- Settles O50: the joined list is as long as the claim counts it, and the age's evaluation keeps what no rule derives. -/
theorem denyList : Obligations.DenyList := by
  intro d n n1 n0 rest s hp
  refine ⟨readTokens_eq n.toNat rest, fun hfield => ?field, ?empty,
    fun ts hlow hhigh hts hsorted => ⟨fun hroom => ?room, fun hfull => ?full⟩, fun hother => ?other, fun hsame => ?same⟩
  case field => rw [exec_denyAdd d _ s hp, takeDenyAdd_field d s hfield, noRef]
  case empty => rw [exec_denyAdd d _ s hp, takeDenyAdd_nil, noRef]
  case room =>
    have hlength : (insertTokens ts s.pay.deny).length ≤ 2048 := (length_insertTokens ts hsorted).trans_le hroom
    refine ⟨{ s with pay := { s.pay with deny := insertTokens ts s.pay.deny } }, ?_, rfl, pairwise_insertTokens ts hsorted,
      fun x => mem_insertTokens⟩
    rw [exec_denyAdd d _ s hp, takeDenyAdd_tokens d s ⟨hlow, hhigh⟩ hts, addTokens_of_room hlength, noRef]
  case full =>
    have hlength : 2048 < (insertTokens ts s.pay.deny).length := hfull.trans_eq (length_insertTokens ts hsorted).symm
    rw [exec_denyAdd d _ s hp, takeDenyAdd_tokens d s ⟨hlow, hhigh⟩ hts, addTokens_of_no_room hlength, noRef]
  case other => rw [exec_denyConfirm d _ s hp, takeDenyConfirm_other hother]
  case same =>
    have hkeeps := keeps_setDenyAge 0 s
    exact ⟨setDenyAge 0 s, by rw [exec_denyConfirm d _ s hp, takeDenyConfirm_same hsame], setDenyAge_denyAge 0 s,
      setDenyAge_denyOld 0 s, setDenyAge_deny 0 s, hkeeps.ret, hkeeps.settings, hkeeps.clock⟩

end Sys2Proof.Proofs
end

section
/-! PROOFS. The flags that evaluations leave derived (R179, R182, R195): what SALES_OPEN and the journal flags are derived from, and that
the evaluation of SALES_OPEN, with the sale it abandons, leaves them as derived. -/

namespace Sys2Proof.Proofs

open Sys2Proof Sys2Proof.Machine Sys2Proof.Laws

/-- R195: SALES_OPEN stands as derived. -/
def OpenDerived (s : State) : Prop := s.cond.salesOpen = salesOpenNow s

/-- R179: JOURNAL_L1 and JOURNAL_L2 stand as derived. -/
def FillDerived (s : State) : Prop := s.jrn.l1 = l1Now s ∧ s.jrn.l2 = l2Now s

theorem FillDerived.of_same {s t : State} (h : FillDerived s) (hret : t.ret = s.ret) (hsettings : t.settings = s.settings)
    (hjrn : t.jrn = s.jrn) : FillDerived t := by
  have hfill : fill t = fill s := by rw [fill, fill, storedCount, storedCount, hret, hjrn]
  rw [FillDerived, l1Now, l2Now, hfill, hsettings, hjrn]
  exact h

/-- SALES_OPEN, the journal's flags and all they are derived from are the same. -/
structure SameFlags (s t : State) : Prop where
  ret          : t.ret = s.ret
  settings     : t.settings = s.settings
  clock        : t.clock = s.clock
  fares        : t.fares = s.fares
  printerFault : t.printerFault = s.printerFault
  jrn          : t.jrn = s.jrn
  ctrl         : t.cond.ctrl = s.cond.ctrl
  salesOpen    : t.cond.salesOpen = s.cond.salesOpen
  coinAvail    : t.pay.coinAvail = s.pay.coinAvail
  cardAvail    : t.pay.cardAvail = s.pay.cardAvail

namespace SameFlags

variable {s t u : State}

theorem refl (s : State) : SameFlags s s := by constructor <;> rfl

theorem trans (h : SameFlags s t) (k : SameFlags t u) : SameFlags s u where
  ret := k.ret.trans h.ret
  settings := k.settings.trans h.settings
  clock := k.clock.trans h.clock
  fares := k.fares.trans h.fares
  printerFault := k.printerFault.trans h.printerFault
  jrn := k.jrn.trans h.jrn
  ctrl := k.ctrl.trans h.ctrl
  salesOpen := k.salesOpen.trans h.salesOpen
  coinAvail := k.coinAvail.trans h.coinAvail
  cardAvail := k.cardAvail.trans h.cardAvail

theorem ite {c : Prop} [Decidable c] (h : SameFlags s t) (k : SameFlags s u) : SameFlags s (if c then t else u) := by
  split
  · exact h
  · exact k

theorem openDerived (h : SameFlags s t) (hopen : OpenDerived s) : OpenDerived t := by
  have hnow : salesOpenNow t = salesOpenNow s := by
    simp only [salesOpenNow, ctrlSet, h.ctrl, h.clock, h.fares, h.jrn, h.printerFault, h.coinAvail, h.cardAvail]
  exact (h.salesOpen.trans hopen).trans hnow.symm

theorem fillDerived (h : SameFlags s t) (hfill : FillDerived s) : FillDerived t :=
  hfill.of_same h.ret h.settings h.jrn

end SameFlags

/-! ### Operations that reach none of these flags -/

theorem Raises.sameFlags {notices : BitVec 16} {s t : State} (h : Raises notices s t) : SameFlags s t := by
  obtain ⟨_, _, rfl⟩ := h
  constructor <;> rfl

theorem sameFlags_raiseIf (rise : Bool) (n : Notice) (s : State) : SameFlags s (raiseIf rise n s) :=
  (raises_raiseIf rise n s).sameFlags

theorem sameFlags_returnEscrow (s : State) : SameFlags s (returnEscrow s) := .ite (.refl s) (by constructor <;> rfl)

theorem sameFlags_acceptOff (s : State) : SameFlags s (acceptOff s) := .ite (by constructor <;> rfl) (.refl s)

theorem sameFlags_disarm (s : State) : SameFlags s (disarm s) := .ite (by constructor <;> rfl) (.refl s)

theorem sameFlags_closePayment (s : State) : SameFlags s (closePayment s) :=
  (((sameFlags_returnEscrow s).trans (by constructor <;> rfl)).trans (sameFlags_acceptOff _)).trans (sameFlags_disarm _)

/-! ### SALES_OPEN (R195) -/

theorem openDerived_setSalesOpen (s : State) : OpenDerived (setSalesOpen s) := by
  unfold setSalesOpen
  split
  · next hsame => exact hsame.symm
  · rfl

@[simp] theorem setSalesOpen_jrn (s : State) : (setSalesOpen s).jrn = s.jrn := by
  unfold setSalesOpen
  split <;> rfl

theorem fillDerived_setSalesOpen {s : State} (h : FillDerived s) : FillDerived (setSalesOpen s) :=
  h.of_same (keeps_setSalesOpen s).ret (keeps_setSalesOpen s).settings (setSalesOpen_jrn s)

/-! ### The journal flags (R179) -/

/-- R179: the journal flags as derived, with the notices of those that rise, before what follows a change of JOURNAL_L2. -/
def fillFlagsSet (s : State) : State :=
  raiseIf (l2Now s && !s.jrn.l2) .journalL2
    (raiseIf (l1Now s && !s.jrn.l1) .journalL1 { s with jrn := { s.jrn with l1 := l1Now s, l2 := l2Now s } })

theorem evalFillWith_cases (onL2 : State → State) (s : State) :
    (l2Now s = s.jrn.l2 ∧ evalFillWith onL2 s = fillFlagsSet s)
      ∨ (l2Now s ≠ s.jrn.l2 ∧ evalFillWith onL2 s = onL2 (fillFlagsSet s)) := by
  by_cases h : l2Now s = s.jrn.l2
  · exact .inl ⟨h, if_pos h⟩
  · exact .inr ⟨h, if_neg h⟩

theorem sameFlags_fillFlagsSet (s : State) :
    SameFlags { s with jrn := { s.jrn with l1 := l1Now s, l2 := l2Now s } } (fillFlagsSet s) :=
  (sameFlags_raiseIf _ _ _).trans (sameFlags_raiseIf _ _ _)

theorem fillDerived_fillFlagsSet (s : State) : FillDerived (fillFlagsSet s) := (sameFlags_fillFlagsSet s).fillDerived ⟨rfl, rfl⟩

/-- R195: JOURNAL_L1 is no input of SALES_OPEN. -/
theorem openDerived_fillFlagsSet {s : State} (hsame : l2Now s = s.jrn.l2) (h : OpenDerived s) : OpenDerived (fillFlagsSet s) := by
  refine (sameFlags_fillFlagsSet s).openDerived ?_
  rw [hsame]
  exact h

theorem fillDerived_evalFillWith {onL2 : State → State} (hon : ∀ {t}, FillDerived t → FillDerived (onL2 t)) (s : State) :
    FillDerived (evalFillWith onL2 s) := by
  have hset := fillDerived_fillFlagsSet s
  obtain ⟨-, h⟩ | ⟨-, h⟩ := evalFillWith_cases onL2 s
  · exact h ▸ hset
  · exact h ▸ hon hset

/-! ### The abandoned sale (R139, R142) -/

/-- R178: the reservation is gone, before the fill is evaluated. -/
def reservationGone (s : State) : State :=
  { s with jrn := { s.jrn with reserved := false }, sale := { s.sale with reserved := false } }

theorem releaseReservation_cases (s : State) :
    (l2Now (reservationGone s) = s.jrn.l2 ∧ releaseReservation s = fillFlagsSet (reservationGone s))
      ∨ (l2Now (reservationGone s) ≠ s.jrn.l2 ∧ releaseReservation s = setSalesOpen (fillFlagsSet (reservationGone s))) :=
  evalFillWith_cases setSalesOpen (reservationGone s)

theorem fillDerived_releaseReservation (s : State) : FillDerived (releaseReservation s) :=
  fillDerived_evalFillWith fillDerived_setSalesOpen (reservationGone s)

/-- R195: the reservation bears on SALES_OPEN by JOURNAL_L2 alone. -/
theorem openDerived_releaseReservation {s : State} (hs : OpenDerived s) : OpenDerived (releaseReservation s) := by
  obtain ⟨hsame, h⟩ | ⟨-, h⟩ := releaseReservation_cases s
  · exact h ▸ openDerived_fillFlagsSet hsame hs
  · exact h ▸ openDerived_setSalesOpen _

/-- R139: of the steps of an abandonment, the release of the reservation alone reaches the flags. -/
theorem abandon_induction {P : State → Prop} (hsame : ∀ {s t}, SameFlags s t → P s → P t)
    (hrelease : ∀ {s}, P s → P (releaseReservation s)) (why : CloseReason) {s : State} (h : P s) : P (abandon why s) := by
  have hclosed : P (if s.sale.state = .paying then closePayment s else s) :=
    hsame (.ite (sameFlags_closePayment s) (.refl s)) h
  have hreleased {t : State} (ht : P t) : P (if t.sale.reserved then releaseReservation t else t) := by
    split
    · exact hrelease ht
    · exact ht
  exact hsame (by constructor <;> rfl) (hreleased hclosed)

/-- R142, R195: the evaluation of SALES_OPEN sets it, and may abandon the sale. -/
theorem evalSalesOpen_induction {P : State → Prop} (hsame : ∀ {s t}, SameFlags s t → P s → P t)
    (hrelease : ∀ {s}, P s → P (releaseReservation s)) {s : State} (hset : P (setSalesOpen s)) : P (evalSalesOpen s) := by
  rw [evalSalesOpen]
  split
  · exact abandon_induction hsame hrelease _ hset
  · exact hset

theorem openDerived_evalSalesOpen (s : State) : OpenDerived (evalSalesOpen s) :=
  evalSalesOpen_induction SameFlags.openDerived openDerived_releaseReservation (openDerived_setSalesOpen s)

theorem fillDerived_evalSalesOpen {s : State} (h : FillDerived s) : FillDerived (evalSalesOpen s) :=
  evalSalesOpen_induction SameFlags.fillDerived (fun {t} _ => fillDerived_releaseReservation t) (fillDerived_setSalesOpen h)

/-! ### The fill is evaluated (R178, R179) -/

theorem fillDerived_evalFill (s : State) : FillDerived (evalFill s) := fillDerived_evalFillWith fillDerived_evalSalesOpen s

theorem openDerived_evalFill_of_l2_changed {s : State} (hchanged : (evalFill s).jrn.l2 ≠ s.jrn.l2) : OpenDerived (evalFill s) := by
  obtain ⟨hsame, h⟩ | ⟨-, h⟩ := evalFillWith_cases evalSalesOpen s
  · refine absurd ?_ hchanged
    rw [evalFill, h, (sameFlags_fillFlagsSet s).jrn]
    exact hsame
  · rw [evalFill, h]
    exact openDerived_evalSalesOpen _

/-! ### The serials are evaluated (R182) -/

/-- R182: NO_SERIALS and the low state of the serials stand as derived. -/
def SerialsDerived (s : State) : Prop := s.jrn.noSerials = noSerialsNow s ∧ s.jrn.serialsLow = serialsLowNow s

theorem SerialsDerived.of_same {s t : State} (h : SerialsDerived s) (hret : t.ret = s.ret) (hsettings : t.settings = s.settings)
    (hno : t.jrn.noSerials = s.jrn.noSerials) (hlow : t.jrn.serialsLow = s.jrn.serialsLow) : SerialsDerived t := by
  rw [SerialsDerived, noSerialsNow, serialsLowNow, serialsRemaining, hret, hsettings, hno, hlow]
  exact h

theorem SameFlags.serialsDerived {s t : State} (h : SameFlags s t) (hs : SerialsDerived s) : SerialsDerived t :=
  hs.of_same h.ret h.settings (by rw [h.jrn]) (by rw [h.jrn])

theorem serialsDerived_setSalesOpen {s : State} (h : SerialsDerived s) : SerialsDerived (setSalesOpen s) := by
  have hkeeps := keeps_setSalesOpen s
  exact h.of_same hkeeps.ret hkeeps.settings (by rw [setSalesOpen_jrn]) (by rw [setSalesOpen_jrn])

/-- R179: the journal flags are no flags of the serials. -/
theorem serialsDerived_releaseReservation {s : State} (hs : SerialsDerived s) : SerialsDerived (releaseReservation s) := by
  have hset : SerialsDerived (fillFlagsSet (reservationGone s)) := (sameFlags_fillFlagsSet _).serialsDerived hs
  obtain ⟨-, h⟩ | ⟨-, h⟩ := releaseReservation_cases s
  · exact h ▸ hset
  · exact h ▸ serialsDerived_setSalesOpen hset

theorem serialsDerived_evalSalesOpen {s : State} (h : SerialsDerived s) : SerialsDerived (evalSalesOpen s) :=
  evalSalesOpen_induction SameFlags.serialsDerived serialsDerived_releaseReservation (serialsDerived_setSalesOpen h)

/-- R182: the flags of the serials as derived, with the notices of those that rise, before what follows a change of NO_SERIALS. -/
def serialFlagsSet (s : State) : State :=
  raiseIf (serialsLowNow s && !s.jrn.serialsLow) .serialsLow
    (raiseIf (noSerialsNow s && !s.jrn.noSerials) .serialsOut
      { s with jrn := { s.jrn with noSerials := noSerialsNow s, serialsLow := serialsLowNow s } })

theorem evalSerials_eq (s : State) :
    evalSerials s = if noSerialsNow s = s.jrn.noSerials then serialFlagsSet s else evalSalesOpen (serialFlagsSet s) := rfl

theorem serialsDerived_serialFlagsSet (s : State) : SerialsDerived (serialFlagsSet s) :=
  ((sameFlags_raiseIf _ _ _).trans (sameFlags_raiseIf _ _ _)).serialsDerived ⟨rfl, rfl⟩

theorem serialsDerived_evalSerials (s : State) : SerialsDerived (evalSerials s) := by
  rw [evalSerials_eq]
  split
  · exact serialsDerived_serialFlagsSet s
  · exact serialsDerived_evalSalesOpen (serialsDerived_serialFlagsSet s)

theorem openDerived_evalSerials {s : State} (h : noSerialsNow s ≠ s.jrn.noSerials) : OpenDerived (evalSerials s) := by
  rw [evalSerials_eq, if_neg h]
  exact openDerived_evalSalesOpen _

end Sys2Proof.Proofs
end

section
/-! PROOFS. The blocks of serials (R182, R183). -/

namespace Sys2Proof.Proofs

open Sys2Proof Sys2Proof.Machine Sys2Proof.Laws

theorem exec_serialBlock (d : Dest) (body : List Byte) (s : State) (hp : s.powered = true) :
    exec (.serialBlock d body) s = .next (takeSerialBlock d body s) := by
  simp [exec, execSerialBlock, whenPowered, hp]

/-- R183 check 1. -/
def SerialField (first count : Nat) : Prop := 1 ≤ count ∧ count ≤ 100000 ∧ 1 ≤ first ∧ first + count - 1 ≤ 4294967295

theorem serialsRise_iff (s : State) (first : Nat) : serialsRise s first = true ↔
    s.ret.lastSerial < first ∧ (s.ret.current.count ≠ 0 → s.ret.current.first + s.ret.current.count - 1 < first)
      ∧ (s.ret.standby.count ≠ 0 → s.ret.standby.first + s.ret.standby.count - 1 < first) := by
  simp only [serialsRise, highestSerial, Bool.and_eq_true, decide_eq_true_eq, and_assoc, or_iff_not_imp_left, ne_eq]

section Checks

variable {first count : Nat} {s : State}

theorem serialField_iff :
    SerialField first count ↔ ¬ (count < 1 ∨ 100000 < count ∨ first = 0 ∨ 4294967295 < first + count - 1) := by
  unfold SerialField
  omega

theorem takeBlock_field (h : ¬ SerialField first count) : takeBlock first count s = (s, .refused .field) :=
  if_pos (not_not.1 (mt serialField_iff.2 h))

theorem takeBlock_order (h : SerialField first count) (hlow : ¬ serialsRise s first = true) :
    takeBlock first count s = (s, .refused .order) := by
  rw [takeBlock, if_neg (serialField_iff.1 h), if_pos (Bool.eq_false_iff.2 hlow)]

theorem takeBlock_full (h : SerialField first count) (hrise : serialsRise s first = true)
    (hcurrent : s.ret.current.count ≠ 0) (hstandby : s.ret.standby.count ≠ 0) : takeBlock first count s = (s, .full) := by
  rw [takeBlock, if_neg (serialField_iff.1 h), if_neg (ne_false_of_eq_true hrise), if_neg hcurrent, if_neg hstandby]

/-- R183: the current block when it is empty, else the standby block, takes the new one. -/
def blockPlaced (first count : Nat) (s : State) : State :=
  { s with ret := if s.ret.current.count = 0 then { s.ret with current := ⟨first, count⟩ }
      else { s.ret with standby := ⟨first, count⟩ } }

theorem takeBlock_accepted (h : SerialField first count) (hrise : serialsRise s first = true)
    (hroom : s.ret.current.count = 0 ∨ s.ret.standby.count = 0) :
    takeBlock first count s = (evalSerials (blockPlaced first count s), .accepted) := by
  rw [takeBlock, if_neg (serialField_iff.1 h), if_neg (ne_false_of_eq_true hrise), blockPlaced]
  by_cases hcurrent : s.ret.current.count = 0
  · rw [if_pos hcurrent, if_pos hcurrent]
  · rw [if_neg hcurrent, if_neg hcurrent, if_pos (hroom.resolve_left hcurrent)]

/-- R182: with a block just accepted there are serials. -/
theorem noSerialsNow_blockPlaced (h : SerialField first count) : noSerialsNow (blockPlaced first count s) = false := by
  obtain ⟨hcount, -⟩ := h
  simp only [noSerialsNow, serialsRemaining, blockPlaced, decide_eq_false_iff_not]
  split <;> (dsimp only; omega)

end Checks

/-- Settles O51: each check by its equation, and the evaluation of the serials for the block placed. -/
theorem serialBlockTaken : Obligations.SerialBlockTaken := by
  intro d f3 f2 f1 f0 c3 c2 c1 c0 s hp body first count field order
  have hexec : exec (.serialBlock d body) s =
      .next (answer d 0x11 (takeBlock first count s).2 noRef (takeBlock first count s).1) := exec_serialBlock d body s hp
  have horder : order ↔ serialsRise s first = true := (serialsRise_iff s first).symm
  refine ⟨fun hfield => ?field, fun hfield hnot => ?order, fun hfield hrise hcurrent hstandby => ?full,
    fun hfield hrise hroom => ?accepted⟩
  case field => rw [hexec, takeBlock_field hfield, noRef]
  case order => rw [hexec, takeBlock_order hfield (mt horder.2 hnot), noRef]
  case full => rw [hexec, takeBlock_full hfield (horder.1 hrise) hcurrent hstandby, noRef]
  case accepted =>
    obtain ⟨hno, hlow⟩ := serialsDerived_evalSerials (blockPlaced first count s)
    refine ⟨evalSerials (blockPlaced first count s), ?_, (keeps_evalSerials _).ret, hno, hlow, fun hwas => ?_⟩
    · rw [hexec, takeBlock_accepted hfield (horder.1 hrise) hroom, noRef]
    · refine openDerived_evalSerials ?_
      rw [noSerialsNow_blockPlaced hfield]
      exact fun hsame => Bool.false_ne_true (hsame.trans hwas)

end Sys2Proof.Proofs
end

section
/-! PROOFS. The upload of the journal (R184 to R187, R190): the places an acknowledgement empties, the frame built, and the return of the
send point. -/

namespace Sys2Proof.Proofs

open Sys2Proof Sys2Proof.Machine Sys2Proof.Laws

/-! ### What the journal's commands are, with power -/

theorem exec_journalAck (d : Dest) (body : List Byte) (s : State) (hp : s.powered = true) :
    exec (.journalAck d body) s = .next (takeJournalAck body s) := by
  simp [exec, execJournalAck, whenPowered, hp]

theorem exec_journalBuild (s : State) (hp : s.powered = true) : exec .journalBuild s = .next (buildJournal s) := by
  simp [exec, execJournalBuild, whenPowered, hp]

theorem exec_ackTimerExpiry (s : State) (hp : s.powered = true) : exec .ackTimerExpiry s = .next (ackExpires s) := by
  simp [exec, execAckTimerExpiry, whenPowered, hp]

/-! ### The open record (R190) -/

theorem openRec_eq_some_iff (s : State) (r : SaleRec) : openRec s = some r ↔
    s.ret.ackPoint < s.ret.nextSeq ∧ ringAt s (ringPlace (s.ret.nextSeq - 1)) = some (.ticket r) ∧ r.kind = .opened := by
  unfold openRec
  split
  · next hstored =>
    split
    · next newest hnewest =>
      simp only [hstored, hnewest, Option.ite_none_right_eq_some, Option.some.injEq, JRecord.ticket.injEq, true_and]
      constructor
      · rintro ⟨hkind, rfl⟩
        exact ⟨rfl, hkind⟩
      · rintro ⟨rfl, hkind⟩
        exact ⟨hkind, rfl⟩
    · next hother =>
      simp only [reduceCtorEq, false_iff]
      rintro ⟨-, hticket, -⟩
      exact hother r hticket
  · next hempty => simp [hempty]

/-! ### JOURNAL ACK (R186) -/

/-- A run of places emptied one after the other: each reads as empty, and every other place as before. -/
theorem memory_read_clear {α : Type} [DecidableEq α] {dflt : α} (a : Nat) (places : List Nat) :
    ∀ m : List (Nat × α), Memory.wf dflt m = true →
      Memory.read dflt (places.foldl (fun m p => Memory.write dflt p dflt m) m) a =
        if a ∈ places then dflt else Memory.read dflt m a := by
  induction places with
  | nil => intro m _; simp
  | cons p places ih =>
    intro m hm
    rw [List.foldl_cons, ih _ (memory_write_wf p dflt m hm)]
    by_cases hmem : a ∈ places
    · simp [hmem]
    · by_cases hsame : a = p
      · subst hsame
        simp [hmem, memory_read_write_same a dflt m hm]
      · simp [hmem, hsame, memory_read_write_other p a dflt m hsame]

/-- R186 step 3: the places of `n` records from the ack point on. -/
def ackedPlaces (s : State) (n : Nat) : List Nat := (List.range' s.ret.ackPoint n).map ringPlace

theorem clearPlaces_eq (s : State) (n : Nat) :
    clearPlaces s n = (ackedPlaces s n).foldl (fun ring p => Memory.write none p none ring) s.ret.ring := by
  simp only [clearPlaces, ackedPlaces, List.range'_eq_map_range, List.foldl_map]

theorem read_clearPlaces {s : State} (hring : Memory.wf none s.ret.ring = true) (n place : Nat) :
    Memory.read none (clearPlaces s n) place = if place ∈ ackedPlaces s n then none else ringAt s place := by
  rw [clearPlaces_eq, memory_read_clear place _ _ hring]
  rfl

/-- R186 step 1: an acknowledgement speaks of no record that was never sent. -/
def ackClamped (sent : Nat) (s : State) : Nat := if s.jrn.highPoint ≤ sent then s.jrn.highPoint - 1 else sent

/-- R186 steps 3 to 5: the records up to `n` leave, before the fill is evaluated. -/
def recordsLeave (n : Nat) (s : State) : State :=
  { s with
    ret := { s.ret with ring := clearPlaces s (n + 1 - s.ret.ackPoint), ackPoint := n + 1 }
    jrn := { s.jrn with
      sendPoint := max s.jrn.sendPoint (n + 1)
      ackTimer := if max s.jrn.sendPoint (n + 1) = n + 1 then none else some 0 } }

theorem acknowledge_old {sent : Nat} {s : State} (h : ackClamped sent s < s.ret.ackPoint) : acknowledge sent s = s := if_pos h

theorem acknowledge_new {sent : Nat} {s : State} (h : s.ret.ackPoint ≤ ackClamped sent s) :
    acknowledge sent s = evalFill (recordsLeave (ackClamped sent s) s) := if_neg (Nat.not_lt.2 h)

/-! ### JOURNAL BUILD (R184) -/

theorem uploadLimit_eq (s : State) : uploadLimit s = if openRec s = none then s.ret.nextSeq else s.ret.nextSeq - 1 := by
  unfold uploadLimit
  cases openRec s <;> simp

theorem three_le_freePlaces_iff (s : State) :
    3 ≤ freePlaces s ↔ s.line.straps.haltNumber ≠ 0 ∧ s.line.ownQ.length ≤ 3 := by
  unfold freePlaces
  split
  · next hzero => simp [hzero]
  · next hnumber =>
    have hroom : 3 ≤ Config.ownCap - s.line.ownQ.length ↔ s.line.ownQ.length ≤ 3 := by unfold Config.ownCap; omega
    simp [hnumber, hroom]

theorem buildable_iff (s : State) : buildable s = true ↔
    s.line.linkLost = false ∧ s.line.straps.haltNumber ≠ 0 ∧ s.line.ownQ.length ≤ 3 ∧ s.jrn.sendPoint < uploadLimit s
      ∧ s.jrn.sendPoint - s.ret.ackPoint < 24 := by
  simp only [buildable, Bool.and_eq_true, Bool.not_eq_true', decide_eq_true_eq, three_le_freePlaces_iff, and_assoc]
  rfl

/-- R11: an own frame handed over while there is a number and a place joins the queue. -/
theorem handOwn_of_room {s : State} (k : OwnKind) (body : List Byte) (hnumber : s.line.straps.haltNumber ≠ 0)
    (hroom : s.line.ownQ.length < 6) :
    handOwn k body s = { s with line := { s.line with ownQ := s.line.ownQ ++ [⟨k, ownChars s k body⟩] } } :=
  if_neg (not_or.2 ⟨hnumber, Nat.not_le.2 hroom⟩)

/-- R184: the body of the JOURNAL frame. -/
def journalBody (s : State) : List Byte := byte (buildCount s) :: recordsFrom s s.jrn.sendPoint (buildCount s)

theorem buildJournal_of_buildable {s : State} (h : buildable s = true) : buildJournal s = { s with
    jrn := { s.jrn with
      sendPoint := s.jrn.sendPoint + buildCount s, highPoint := max s.jrn.highPoint (s.jrn.sendPoint + buildCount s) }
    line := { s.line with ownQ := s.line.ownQ ++ [⟨.journal, ownChars s .journal (journalBody s)⟩] } } := by
  obtain ⟨-, hnumber, hroom, -⟩ := (buildable_iff s).1 h
  rw [buildJournal, if_pos h]
  exact handOwn_of_room (s := { s with jrn := _ }) .journal (journalBody s) hnumber (Nat.lt_of_le_of_lt hroom (by decide))

theorem buildJournal_of_not_buildable {s : State} (h : ¬ buildable s = true) : buildJournal s = s := if_neg h

/-! ### The ack timer (R185, R187) -/

theorem ackExpires_eq (s : State) : ackExpires s = if s.jrn.ackTimer = none then s else sendPointReturns s := by
  unfold ackExpires
  cases s.jrn.ackTimer <;> rfl

/-- Settles O52: an acknowledgement is the records' leaving and the evaluation of the fill, which keeps all but the flags. -/
theorem journalUpload : Obligations.JournalUpload := by
  intro d n3 n2 n1 n0 s hp hsafe sent n limit outstanding builds count
  obtain ⟨-, hring⟩ := hsafe
  have hack : exec (.journalAck d [n3, n2, n1, n0]) s = .next (acknowledge sent s) := exec_journalAck d _ s hp
  have hclamped : ackClamped sent s = n := rfl
  have hlimit : uploadLimit s = limit := uploadLimit_eq s
  have hbuilds : buildable s = true ↔ builds := by rw [buildable_iff, hlimit]
  have hcount : buildCount s = count := by rw [buildCount, hlimit]; rfl
  refine ⟨openRec_eq_some_iff s, fun hold => ?old, fun hnew => ?new, fun hnot => ?unbuilt, fun hbuild => ?built, ?expiry⟩
  case old => rw [hack, acknowledge_old hold]
  case new =>
    have hkeeps := keeps_evalFill (recordsLeave n s)
    obtain ⟨hl1, hl2⟩ := fillDerived_evalFill (recordsLeave n s)
    refine ⟨evalFill (recordsLeave n s), by rw [hack, acknowledge_new hnew, hclamped], ?_, fun place => ?_, ?_, ?_, ?_, hl1, hl2,
      openDerived_evalFill_of_l2_changed⟩
    · rw [hkeeps.ret]; rfl
    · rw [ringAt, hkeeps.ret]
      exact read_clearPlaces hring _ place
    · rw [hkeeps.jrn]; rfl
    · rw [hkeeps.jrn]; rfl
    · rw [hkeeps.jrn]
      simp [recordsLeave]
  case unbuilt => rw [exec_journalBuild s hp, buildJournal_of_not_buildable (mt hbuilds.1 hnot)]
  case built =>
    rw [exec_journalBuild s hp, buildJournal_of_buildable (hbuilds.2 hbuild), journalBody, hcount]
    rfl
  case expiry => rw [exec_ackTimerExpiry s hp, ackExpires_eq]; rfl

end Sys2Proof.Proofs
end
